-- ==== Sys2Proof/Word.lean ====
section
/-! DEFINITION. The word types of the block (00_scope.md R10, 30_encoding.md R80, R81). -/

namespace Sys2Proof

/-- A byte of a stream word: bits `[8i+7:8i]` of a data word (20_memory.md R63). -/
abbrev Byte := BitVec 8

/-- A stream word, an address or a register value: `DW = 32` bits (00_scope.md R7). -/
abbrev Word := BitVec 32

/-- A code group, `g[9:0]`, letter a at bit 0 (30_encoding.md R80). -/
abbrev Group := BitVec 10

/-- A line word: `W = 10*LANES = 40` bits, lane l in bits `[10l+9:10l]` (30_encoding.md R81). -/
abbrev LineWord := BitVec 40

/-- A byte-enable: `be[i]` selects byte i (20_memory.md R63). -/
abbrev ByteEnable := BitVec 4

end Sys2Proof
end

