-- ==== Sys2Proof/Config.lean ====
section
/-! DEFINITION. The build parameters of an endpoint (00_scope.md R7 to R9). They are data of the state, fixed when the
endpoint is built: no step writes them, so every statement over all states is a statement over all builds.
The spec leaves no result of any operation undefined, so there is no free value here (93_implementation_defined.md). -/

namespace Sys2Proof

/-- `ROLE` (00_scope.md R7): `master` is the requester, `slave` the completer (45_bustunnel.md R235). -/
inductive Role
  | master
  | slave
  deriving DecidableEq, Repr

/-- The implementation parameters of 00_scope.md R7. -/
structure Params where
  /-- `ROLE`. -/
  role : Role
  /-- `LANES`: only 4 is a legal build (R8). -/
  lanes : Nat
  /-- `TX_DWELL`: ticks spent in SEND_TRAINING. -/
  txDwell : Nat
  /-- `LOCK_COUNT`: consecutive comma words needed for lock, and off-rotation sightings that break it. -/
  lockCount : Nat
  /-- `ALIGN_TIMEOUT`: ticks in WAIT_ALIGN before ERROR. -/
  alignTimeout : Nat
  /-- `SLIP_LIMIT`: bit slips before the aligner reports exhaustion. -/
  slipLimit : Nat
  /-- `CONFIRM_WINDOW`: clean ticks in ALIGNED before READY. -/
  confirmWindow : Nat
  /-- `ERR_THRESHOLD`: READY error-count level that forces RESET. -/
  errThreshold : Nat
  /-- `TXQ_DEPTH`: transmit bridge queue capacity. -/
  txqDepth : Nat
  /-- `RXQ_DEPTH`: receive bridge queue capacity. -/
  rxqDepth : Nat
  /-- `SCR_SEED`: reset value of both LFSR states, any 23-bit value. -/
  scrSeed : BitVec 23
  /-- `LINK_DOWN_READ_VALUE`: data returned to a read abandoned by a link reset, any 32-bit value. -/
  linkDownReadValue : Word
  deriving DecidableEq, Repr

/-- The default values of the table of 00_scope.md R7 (92_eei_decisions.md D2); `ROLE` has no default. -/
def Params.default (role : Role) : Params :=
  { role := role, lanes := 4, txDwell := 1024, lockCount := 16, alignTimeout := 65536, slipLimit := 4096,
    confirmWindow := 1024, errThreshold := 16, txqDepth := 16, rxqDepth := 16, scrSeed := 0x7FFFFF#23,
    linkDownReadValue := 0xFFFFFFFF#32 }

/-- `lo ≤ n < 2^bits`, the shape of every range of 00_scope.md R7. -/
def inRange (lo bits n : Nat) : Bool := decide (lo ≤ n) && decide (n < 2 ^ bits)

/-- A legal build: `LANES = 4` and every parameter in its legal range (00_scope.md R7, R8; 60_exceptions.md R316:
anything else is refused). -/
def Params.legal (p : Params) : Bool :=
  p.lanes == 4 && inRange 1 32 p.txDwell && inRange 3 16 p.lockCount && inRange 1 32 p.alignTimeout &&
  inRange 1 32 p.slipLimit && inRange 1 32 p.confirmWindow && inRange 1 16 p.errThreshold &&
  inRange 1 16 p.txqDepth && inRange 1 16 p.rxqDepth

end Sys2Proof
end

