-- ==== Sys2Proof/Syntax.lean ====
section
/-! DEFINITION. The syntax: one constructor per row of spec/opcode_table.json (30_encoding.md R91), in its five levels:
code groups, line words, messages, register accesses and local-bus transactions. The block fetches no instructions
(10_state.md R21): these are the wire-level units and host operations it acts on (00_scope.md R15). -/

namespace Sys2Proof

/-- The sign of the running disparity (10_state.md R23). -/
inductive RD
  | neg
  | pos
  deriving DecidableEq, Repr

/-- The rows of the opcode table. A constructor `dX_Yneg` is the row `DX.Y-` and `dX_Ypos` the row `DX.Y+`
(00_scope.md R13): the form legal under a receive running disparity NEG or POS. -/
inductive Instr
  /-- INVALID_GROUP: a group that matches no row of its format for the current `rd` (R92). -/
  | invalidGroup (rd : RD) (g : Group)
  /-- IDLE (the COMMA word) from RD NEG, and from RD POS (R82). -/
  | idleNeg
  | idlePos
  /-- SOF from RD NEG, and from RD POS (R82). -/
  | sofNeg
  | sofPos
  /-- DATA: the four D groups of the bytes of `d`, chained from `rd` (R83). -/
  | lineData (rd : RD) (d : Word)
  /-- ERR: a word that classifies as neither IDLE, SOF nor DATA under `rd` (R93). -/
  | lineErr (rd : RD) (w : LineWord)
  /-- WRITE, READ and RESPONSE messages, with the frame's ADDR and DATA words (R86, R87). -/
  | msgWrite (be : ByteEnable) (addr data : Word)
  | msgRead (be : ByteEnable) (addr data : Word)
  | msgResponse (be : ByteEnable) (addr data : Word)
  /-- MALFORMED_HEADER: a frame whose header word is none of the three (R94). -/
  | malformedHeader (hdr addr data : Word)
  /-- Register accesses of the host (47_control.md R285); a write carries its 32-bit value. -/
  | csrwControl (val : Word)
  | csrrControl
  | csrrStatus
  | csrwStatus (val : Word)
  | csrwClear (val : Word)
  | csrrClear
  | csrrFrameDropCount
  | csrrDecodeErrorCount
  | csrwFrameDropCount (val : Word)
  | csrwDecodeErrorCount (val : Word)
  /-- CSR_RESERVED: an access to any other offset (10_state.md R56). -/
  | csrReserved (write : Bool) (off val : Word)
  /-- WR and RD: a transaction on the requester's local bus (45_bustunnel.md R237, R238). -/
  | txnWr (addr data : Word) (be : ByteEnable)
  | txnRd (addr data : Word) (be : ByteEnable)
  /- The 516 code-group rows. They stand last because Lean's compiler admits a constructor with arguments only among
  the first 244 of a type. -/
  | d0_0neg | d0_0pos | d1_0neg | d1_0pos | d2_0neg | d2_0pos | d3_0neg | d3_0pos
  | d4_0neg | d4_0pos | d5_0neg | d5_0pos | d6_0neg | d6_0pos | d7_0neg | d7_0pos
  | d8_0neg | d8_0pos | d9_0neg | d9_0pos | d10_0neg | d10_0pos | d11_0neg | d11_0pos
  | d12_0neg | d12_0pos | d13_0neg | d13_0pos | d14_0neg | d14_0pos | d15_0neg | d15_0pos
  | d16_0neg | d16_0pos | d17_0neg | d17_0pos | d18_0neg | d18_0pos | d19_0neg | d19_0pos
  | d20_0neg | d20_0pos | d21_0neg | d21_0pos | d22_0neg | d22_0pos | d23_0neg | d23_0pos
  | d24_0neg | d24_0pos | d25_0neg | d25_0pos | d26_0neg | d26_0pos | d27_0neg | d27_0pos
  | d28_0neg | d28_0pos | d29_0neg | d29_0pos | d30_0neg | d30_0pos | d31_0neg | d31_0pos
  | d0_1neg | d0_1pos | d1_1neg | d1_1pos | d2_1neg | d2_1pos | d3_1neg | d3_1pos
  | d4_1neg | d4_1pos | d5_1neg | d5_1pos | d6_1neg | d6_1pos | d7_1neg | d7_1pos
  | d8_1neg | d8_1pos | d9_1neg | d9_1pos | d10_1neg | d10_1pos | d11_1neg | d11_1pos
  | d12_1neg | d12_1pos | d13_1neg | d13_1pos | d14_1neg | d14_1pos | d15_1neg | d15_1pos
  | d16_1neg | d16_1pos | d17_1neg | d17_1pos | d18_1neg | d18_1pos | d19_1neg | d19_1pos
  | d20_1neg | d20_1pos | d21_1neg | d21_1pos | d22_1neg | d22_1pos | d23_1neg | d23_1pos
  | d24_1neg | d24_1pos | d25_1neg | d25_1pos | d26_1neg | d26_1pos | d27_1neg | d27_1pos
  | d28_1neg | d28_1pos | d29_1neg | d29_1pos | d30_1neg | d30_1pos | d31_1neg | d31_1pos
  | d0_2neg | d0_2pos | d1_2neg | d1_2pos | d2_2neg | d2_2pos | d3_2neg | d3_2pos
  | d4_2neg | d4_2pos | d5_2neg | d5_2pos | d6_2neg | d6_2pos | d7_2neg | d7_2pos
  | d8_2neg | d8_2pos | d9_2neg | d9_2pos | d10_2neg | d10_2pos | d11_2neg | d11_2pos
  | d12_2neg | d12_2pos | d13_2neg | d13_2pos | d14_2neg | d14_2pos | d15_2neg | d15_2pos
  | d16_2neg | d16_2pos | d17_2neg | d17_2pos | d18_2neg | d18_2pos | d19_2neg | d19_2pos
  | d20_2neg | d20_2pos | d21_2neg | d21_2pos | d22_2neg | d22_2pos | d23_2neg | d23_2pos
  | d24_2neg | d24_2pos | d25_2neg | d25_2pos | d26_2neg | d26_2pos | d27_2neg | d27_2pos
  | d28_2neg | d28_2pos | d29_2neg | d29_2pos | d30_2neg | d30_2pos | d31_2neg | d31_2pos
  | d0_3neg | d0_3pos | d1_3neg | d1_3pos | d2_3neg | d2_3pos | d3_3neg | d3_3pos
  | d4_3neg | d4_3pos | d5_3neg | d5_3pos | d6_3neg | d6_3pos | d7_3neg | d7_3pos
  | d8_3neg | d8_3pos | d9_3neg | d9_3pos | d10_3neg | d10_3pos | d11_3neg | d11_3pos
  | d12_3neg | d12_3pos | d13_3neg | d13_3pos | d14_3neg | d14_3pos | d15_3neg | d15_3pos
  | d16_3neg | d16_3pos | d17_3neg | d17_3pos | d18_3neg | d18_3pos | d19_3neg | d19_3pos
  | d20_3neg | d20_3pos | d21_3neg | d21_3pos | d22_3neg | d22_3pos | d23_3neg | d23_3pos
  | d24_3neg | d24_3pos | d25_3neg | d25_3pos | d26_3neg | d26_3pos | d27_3neg | d27_3pos
  | d28_3neg | d28_3pos | d29_3neg | d29_3pos | d30_3neg | d30_3pos | d31_3neg | d31_3pos
  | d0_4neg | d0_4pos | d1_4neg | d1_4pos | d2_4neg | d2_4pos | d3_4neg | d3_4pos
  | d4_4neg | d4_4pos | d5_4neg | d5_4pos | d6_4neg | d6_4pos | d7_4neg | d7_4pos
  | d8_4neg | d8_4pos | d9_4neg | d9_4pos | d10_4neg | d10_4pos | d11_4neg | d11_4pos
  | d12_4neg | d12_4pos | d13_4neg | d13_4pos | d14_4neg | d14_4pos | d15_4neg | d15_4pos
  | d16_4neg | d16_4pos | d17_4neg | d17_4pos | d18_4neg | d18_4pos | d19_4neg | d19_4pos
  | d20_4neg | d20_4pos | d21_4neg | d21_4pos | d22_4neg | d22_4pos | d23_4neg | d23_4pos
  | d24_4neg | d24_4pos | d25_4neg | d25_4pos | d26_4neg | d26_4pos | d27_4neg | d27_4pos
  | d28_4neg | d28_4pos | d29_4neg | d29_4pos | d30_4neg | d30_4pos | d31_4neg | d31_4pos
  | d0_5neg | d0_5pos | d1_5neg | d1_5pos | d2_5neg | d2_5pos | d3_5neg | d3_5pos
  | d4_5neg | d4_5pos | d5_5neg | d5_5pos | d6_5neg | d6_5pos | d7_5neg | d7_5pos
  | d8_5neg | d8_5pos | d9_5neg | d9_5pos | d10_5neg | d10_5pos | d11_5neg | d11_5pos
  | d12_5neg | d12_5pos | d13_5neg | d13_5pos | d14_5neg | d14_5pos | d15_5neg | d15_5pos
  | d16_5neg | d16_5pos | d17_5neg | d17_5pos | d18_5neg | d18_5pos | d19_5neg | d19_5pos
  | d20_5neg | d20_5pos | d21_5neg | d21_5pos | d22_5neg | d22_5pos | d23_5neg | d23_5pos
  | d24_5neg | d24_5pos | d25_5neg | d25_5pos | d26_5neg | d26_5pos | d27_5neg | d27_5pos
  | d28_5neg | d28_5pos | d29_5neg | d29_5pos | d30_5neg | d30_5pos | d31_5neg | d31_5pos
  | d0_6neg | d0_6pos | d1_6neg | d1_6pos | d2_6neg | d2_6pos | d3_6neg | d3_6pos
  | d4_6neg | d4_6pos | d5_6neg | d5_6pos | d6_6neg | d6_6pos | d7_6neg | d7_6pos
  | d8_6neg | d8_6pos | d9_6neg | d9_6pos | d10_6neg | d10_6pos | d11_6neg | d11_6pos
  | d12_6neg | d12_6pos | d13_6neg | d13_6pos | d14_6neg | d14_6pos | d15_6neg | d15_6pos
  | d16_6neg | d16_6pos | d17_6neg | d17_6pos | d18_6neg | d18_6pos | d19_6neg | d19_6pos
  | d20_6neg | d20_6pos | d21_6neg | d21_6pos | d22_6neg | d22_6pos | d23_6neg | d23_6pos
  | d24_6neg | d24_6pos | d25_6neg | d25_6pos | d26_6neg | d26_6pos | d27_6neg | d27_6pos
  | d28_6neg | d28_6pos | d29_6neg | d29_6pos | d30_6neg | d30_6pos | d31_6neg | d31_6pos
  | d0_7neg | d0_7pos | d1_7neg | d1_7pos | d2_7neg | d2_7pos | d3_7neg | d3_7pos
  | d4_7neg | d4_7pos | d5_7neg | d5_7pos | d6_7neg | d6_7pos | d7_7neg | d7_7pos
  | d8_7neg | d8_7pos | d9_7neg | d9_7pos | d10_7neg | d10_7pos | d11_7neg | d11_7pos
  | d12_7neg | d12_7pos | d13_7neg | d13_7pos | d14_7neg | d14_7pos | d15_7neg | d15_7pos
  | d16_7neg | d16_7pos | d17_7neg | d17_7pos | d18_7neg | d18_7pos | d19_7neg | d19_7pos
  | d20_7neg | d20_7pos | d21_7neg | d21_7pos | d22_7neg | d22_7pos | d23_7neg | d23_7pos
  | d24_7neg | d24_7pos | d25_7neg | d25_7pos | d26_7neg | d26_7pos | d27_7neg | d27_7pos
  | d28_7neg | d28_7pos | d29_7neg | d29_7pos | d30_7neg | d30_7pos | d31_7neg | d31_7pos
  | k28_5neg | k28_5pos | k27_7neg | k27_7pos
  deriving DecidableEq, Repr

end Sys2Proof
end

