-- ==== Sys2Proof/Machine/LineCodec.lean ====
section
/-! DEFINITION. The LineCodec: the 8b/10b code of 40_linecodec.md as pure functions (R127). The tables are those of
R113, R114 and R116, each sub-block written as the spec's string, letter a (or f) leftmost. -/

namespace Sys2Proof.Machine

/-- The alphabet of the codec (R117): 256 data groups, the comma K28.5 and the start marker K27.7. -/
inductive Symbol
  | data (v : Byte)
  | comma
  | sof
  deriving DecidableEq, Repr

/-- The is-control flag k of an alphabet member (R117). -/
def Symbol.k : Symbol → Bool
  | .data _ => false
  | .comma => true
  | .sof => true

/-- The 8-bit value v of an alphabet member (R117). -/
def Symbol.v : Symbol → Byte
  | .data v => v
  | .comma => 0xBC#8
  | .sof => 0xFB#8

/-- The member of `Alpha` for a pair `(k, v)`, if there is one (R117). -/
def Symbol.ofPair? (k : Bool) (v : Byte) : Option Symbol :=
  if k then (if v = 0xBC#8 then some .comma else if v = 0xFB#8 then some .sof else none) else some (.data v)

/-- `Alpha` as a list: 258 members (R117). -/
def alphabet : List Symbol :=
  (List.range 256).map (fun n => Symbol.data (BitVec.ofNat 8 n)) ++ [Symbol.comma, Symbol.sof]

/-! ### Sub-blocks -/

/-- The bits of a 6b sub-block written as the string `abcdei`: letter a goes to bit 0 (R111). -/
def letters6 (s : BitVec 6) : BitVec 6 :=
  s.extractLsb' 0 1 ++ s.extractLsb' 1 1 ++ s.extractLsb' 2 1 ++ s.extractLsb' 3 1 ++ s.extractLsb' 4 1 ++
    s.extractLsb' 5 1

/-- The bits of a 4b sub-block written as the string `fghj`: letter f goes to bit 0 (R111). -/
def letters4 (s : BitVec 4) : BitVec 4 :=
  s.extractLsb' 0 1 ++ s.extractLsb' 1 1 ++ s.extractLsb' 2 1 ++ s.extractLsb' 3 1

/-- How many bits of a sub-block or group are one. -/
def ones {n : Nat} (s : BitVec n) : Nat :=
  (List.range n).countP (fun k => s.getLsbD k)

/-- `RdSub` of a 6b sub-block (R112). -/
def rdSub6 (s : BitVec 6) (rd : RD) : RD :=
  if 3 < ones s ∨ s = letters6 0b000111#6 then .pos
  else if ones s < 3 ∨ s = letters6 0b111000#6 then .neg
  else rd

/-- `RdSub` of a 4b sub-block (R112). -/
def rdSub4 (s : BitVec 4) (rd : RD) : RD :=
  if 2 < ones s ∨ s = letters4 0b0011#4 then .pos
  else if ones s < 2 ∨ s = letters4 0b1100#4 then .neg
  else rd

/-- The 6b sub-block `abcdei` of a group: bits 5:0 (R80). -/
def abcdei (g : Group) : BitVec 6 := g.extractLsb' 0 6

/-- The 4b sub-block `fghj` of a group: bits 9:6 (R80). -/
def fghj (g : Group) : BitVec 4 := g.extractLsb' 6 4

/-- `RdAfter(g, rd)`, for all 1024 values of g (R112). -/
def rdAfter (g : Group) (rd : RD) : RD := rdSub4 (fghj g) (rdSub6 (abcdei g) rd)

/-! ### Code tables -/

/-- Choose the column of a code table for a running disparity. -/
def column {α : Type} (row : α × α) : RD → α
  | .neg => row.1
  | .pos => row.2

/-- The 5b/6b table of R113, rows x = 0 to 31: `abcdei` for RD- and for RD+. -/
def table6 : List (BitVec 6 × BitVec 6) :=
  [(0b100111#6, 0b011000#6), (0b011101#6, 0b100010#6), (0b101101#6, 0b010010#6), (0b110001#6, 0b110001#6),
   (0b110101#6, 0b001010#6), (0b101001#6, 0b101001#6), (0b011001#6, 0b011001#6), (0b111000#6, 0b000111#6),
   (0b111001#6, 0b000110#6), (0b100101#6, 0b100101#6), (0b010101#6, 0b010101#6), (0b110100#6, 0b110100#6),
   (0b001101#6, 0b001101#6), (0b101100#6, 0b101100#6), (0b011100#6, 0b011100#6), (0b010111#6, 0b101000#6),
   (0b011011#6, 0b100100#6), (0b100011#6, 0b100011#6), (0b010011#6, 0b010011#6), (0b110010#6, 0b110010#6),
   (0b001011#6, 0b001011#6), (0b101010#6, 0b101010#6), (0b011010#6, 0b011010#6), (0b111010#6, 0b000101#6),
   (0b110011#6, 0b001100#6), (0b100110#6, 0b100110#6), (0b010110#6, 0b010110#6), (0b110110#6, 0b001001#6),
   (0b001110#6, 0b001110#6), (0b101110#6, 0b010001#6), (0b011110#6, 0b100001#6), (0b101011#6, 0b010100#6)]

/-- The K28 row of R113. -/
def rowK28 : BitVec 6 × BitVec 6 := (0b001111#6, 0b110000#6)

/-- The 3b/4b table for data groups of R114, rows .0 to .6 and .P7: `fghj` for rd6 = NEG and POS. -/
def table4D : List (BitVec 4 × BitVec 4) :=
  [(0b1011#4, 0b0100#4), (0b1001#4, 0b1001#4), (0b0101#4, 0b0101#4), (0b1100#4, 0b0011#4), (0b1101#4, 0b0010#4),
   (0b1010#4, 0b1010#4), (0b0110#4, 0b0110#4), (0b1110#4, 0b0001#4)]

/-- The alternate .A7 row of R114. -/
def rowA7 : BitVec 4 × BitVec 4 := (0b0111#4, 0b1000#4)

/-- The 3b/4b table for control groups of R116. -/
def table4K : List (BitVec 4 × BitVec 4) :=
  [(0b1011#4, 0b0100#4), (0b0110#4, 0b1001#4), (0b1010#4, 0b0101#4), (0b1100#4, 0b0011#4), (0b1101#4, 0b0010#4),
   (0b0101#4, 0b1010#4), (0b1001#4, 0b0110#4), (0b0111#4, 0b1000#4)]

/-- `E6(x, rd)` (R113). -/
def e6 (x : BitVec 5) (rd : RD) : BitVec 6 := letters6 (column (table6.getD x.toNat (0, 0)) rd)

/-- The A7 rule (R115): the alternate form is used exactly for these `(x, rd6)`. -/
def usesA7 (x : BitVec 5) : RD → Bool
  | .neg => x == 17#5 || x == 18#5 || x == 20#5
  | .pos => x == 11#5 || x == 13#5 || x == 14#5

/-- The 6b sub-block of a symbol (R116, R118). -/
def sub6 (sym : Symbol) (rd : RD) : BitVec 6 :=
  if sym.k && sym.v.extractLsb' 0 5 == 28#5 then letters6 (column rowK28 rd) else e6 (sym.v.extractLsb' 0 5) rd

/-- The 4b sub-block of a symbol, `rd6` being the RD after its 6b sub-block (R114 to R116, R118). -/
def sub4 (sym : Symbol) (rd6 : RD) : BitVec 4 :=
  let y := (sym.v.extractLsb' 5 3).toNat
  if sym.k then letters4 (column (table4K.getD y (0, 0)) rd6)
  else if y == 7 && usesA7 (sym.v.extractLsb' 0 5) rd6 then letters4 (column rowA7 rd6)
  else letters4 (column (table4D.getD y (0, 0)) rd6)

/-! ### Encode and decode -/

/-- `Encode` of an alphabet member: the group and the RD after it (R118). -/
def encodeSymbol (sym : Symbol) (rd : RD) : Group × RD :=
  let s6 := sub6 sym rd
  let rd6 := rdSub6 s6 rd
  let s4 := sub4 sym rd6
  (s4 ++ s6, rdSub4 s4 rd6)

/-- `Encode(k, v, rd)` (R118): `none` is its Fault, outside the alphabet. -/
def encodeGroup (k : Bool) (v : Byte) (rd : RD) : Option (Group × RD) :=
  (Symbol.ofPair? k v).map (fun sym => encodeSymbol sym rd)

/-- The result of decoding one lane (R119). -/
inductive LaneResult
  | valid (sym : Symbol)
  | invalid
  deriving DecidableEq, Repr

/-- The lane value `(k, v)` of a result: `(0, 0)` for an Invalid group (R119). -/
def LaneResult.value : LaneResult → Bool × Byte
  | .valid sym => (sym.k, sym.v)
  | .invalid => (false, 0#8)

/-- The data byte that `Encode` gives this group for under `rd`, if there is one: a search over the x whose 6b
sub-block is the group's, then over y (R118, R119). -/
def dataByteOf? (g : Group) (rd : RD) : Option Byte :=
  (List.range 32).findSome? fun x =>
    if e6 (BitVec.ofNat 5 x) rd == abcdei g then
      (List.range 8).findSome? fun y =>
        if (encodeSymbol (.data (BitVec.ofNat 3 y ++ BitVec.ofNat 5 x)) rd).1 == g then
          some (BitVec.ofNat 3 y ++ BitVec.ofNat 5 x)
        else none
    else none

/-- The member of the alphabet that `Encode` gives this group for under `rd`, if there is one (R119; unique by R117). -/
def symbolOf? (g : Group) (rd : RD) : Option Symbol :=
  if (encodeSymbol .comma rd).1 == g then some .comma
  else if (encodeSymbol .sof rd).1 == g then some .sof
  else (dataByteOf? g rd).map .data

/-- `Decode(g, rd)` (R119): the RD after it is `RdAfter`, valid or not. -/
def decodeLane (g : Group) (rd : RD) : LaneResult × RD :=
  (match symbolOf? g rd with
    | some sym => .valid sym
    | none => .invalid, rdAfter g rd)

/-! ### Line words -/

/-- What the transmit path can send: the `kind` of R120, with its data word. -/
inductive TxWord
  | idle
  | sof
  | data (d : Word)
  deriving DecidableEq, Repr

/-- Byte l of a stream word, which lane l carries (R81). -/
def byteOf (d : Word) (l : Nat) : Byte := d.extractLsb' (8 * l) 8

/-- Lane l of a line word (R81). -/
def laneOf (w : LineWord) (l : Nat) : Group := w.extractLsb' (10 * l) 10

/-- The symbols of the four lanes of a word, lane 0 first (R82, R120). -/
def TxWord.symbols : TxWord → List Symbol
  | .idle => [.comma, .data 0, .data 0, .data 0]
  | .sof => [.sof, .data 0, .data 0, .data 0]
  | .data d => [.data (byteOf d 0), .data (byteOf d 1), .data (byteOf d 2), .data (byteOf d 3)]

/-- `Encode` chained through the lanes: the groups, lane 0 first, and the RD after the last (R120). -/
def encodeLanes : List Symbol → RD → List Group × RD
  | [], rd => ([], rd)
  | sym :: rest, rd =>
    let first := encodeSymbol sym rd
    let others := encodeLanes rest first.2
    (first.1 :: others.1, others.2)

/-- A line word from its lanes, lane 0 in bits 9:0 (R81). -/
def joinLanes (gs : List Group) : LineWord :=
  gs.getD 3 0 ++ gs.getD 2 0 ++ gs.getD 1 0 ++ gs.getD 0 0

/-- The four lanes of a line word, lane 0 first (R81). -/
def splitLanes (w : LineWord) : List Group := [laneOf w 0, laneOf w 1, laneOf w 2, laneOf w 3]

/-- `EncodeWord(kind, d, rd)` (R120). -/
def encodeWord (word : TxWord) (rd : RD) : LineWord × RD :=
  let lanes := encodeLanes word.symbols rd
  (joinLanes lanes.1, lanes.2)

/-- `Decode` chained through a list of lanes (R122). -/
def decodeLanes : List Group → RD → List LaneResult × RD
  | [], rd => ([], rd)
  | g :: rest, rd =>
    let first := decodeLane g rd
    let others := decodeLanes rest first.2
    (first.1 :: others.1, others.2)

/-- `DecodeWord(a, rd)` (R122). -/
def decodeWord (a : LineWord) (rd : RD) : List LaneResult × RD := decodeLanes (splitLanes a) rd

/-- The class of a received line word (R123). -/
inductive WordClass
  | idle
  | sof
  | data (d : Word)
  | err
  deriving DecidableEq, Repr

/-- The byte of a lane that decoded as a data group. -/
def LaneResult.byte? : LaneResult → Option Byte
  | .valid (.data v) => some v
  | _ => none

/-- `Classify(res)` (R123). A word with an Invalid lane matches none of the three legal shapes, so it is ERR. -/
def classify (res : List LaneResult) : WordClass :=
  if res = [.valid .comma, .valid (.data 0), .valid (.data 0), .valid (.data 0)] then .idle
  else if res = [.valid .sof, .valid (.data 0), .valid (.data 0), .valid (.data 0)] then .sof
  else match res.map LaneResult.byte? with
    | [some b0, some b1, some b2, some b3] => .data (b3 ++ b2 ++ b1 ++ b0)
    | _ => .err

/-- `IsComma(a)` (R124): lane 0 holds K28.5 in either form. -/
def isComma (a : LineWord) : Bool := laneOf a 0 == 0x17C#10 || laneOf a 0 == 0x283#10

end Sys2Proof.Machine
end

