-- ==== Sys2Proof/WellFormed.lean ====
section
/-! DEFINITION. Well-formed instructions: a catch-all row stands only for encodings that match no other row of its
format (30_encoding.md R91). Every other row is well formed with every operand. -/

namespace Sys2Proof

open Machine

/-- A header word that is one of the three messages: a legal TYPE and zero reserved bits (44_framer.md R217). -/
def legalHeader (hdr : Word) : Bool :=
  (hdr.extractLsb' 0 8 == 0x01#8 || hdr.extractLsb' 0 8 == 0x02#8 || hdr.extractLsb' 0 8 == 0x03#8) &&
    hdr.extractLsb' 12 20 == 0#20

/-- The five register offsets (10_state.md R51 to R55). -/
def registerOffsets : List Word := [0x00#32, 0x04#32, 0x08#32, 0x0C#32, 0x10#32]

/-- The check of each catch-all row; the rows it does not name admit every operand. -/
def Instr.wf : Instr → Bool
  | .invalidGroup rd g => symbolOf? g rd == none
  | .lineErr rd w => classify (decodeWord w rd).1 == .err
  | .malformedHeader hdr _ _ => !legalHeader hdr
  | .csrReserved write off val => !registerOffsets.contains off && (write || val == 0#32)
  | _ => true

end Sys2Proof
end

