-- ==== Sys2Proof/Decode.lean ====
section
/-! DEFINITION. The decoder and, after it, the encoder (30_encoding.md). The code-group rows are the table of
40_linecodec.md R129 and the two control groups of R121, written out. A decoder of each of the five formats is total;
reading a format's bytes rejects by name what is no whole unit of it. -/

namespace Sys2Proof

open Machine

/-- The five row formats of spec/opcode_table.json (30_encoding.md R91). -/
inductive Format
  | codeGroup
  | lineWord
  | frameHeader
  | registerAccess
  | busTxn
  deriving DecidableEq, Repr

/-- The bits of one unit: a code group or a line word with the receive RD it arrives under, a frame's HDR, ADDR and
DATA words, a host register access, or a transaction of the requester's local bus. -/
inductive Image
  | group (rd : RD) (g : Group)
  | line (rd : RD) (w : LineWord)
  | header (hdr addr data : Word)
  | readAccess (off : Word)
  | writeAccess (off val : Word)
  | txn (we : Bool) (addr data : Word) (be : ByteEnable)
  deriving DecidableEq, Repr

/-- Why a list of bytes is no unit of a format. -/
inductive DecodeError
  /-- There are fewer bytes than the format has (30_encoding.md R96). -/
  | tooShort
  /-- A bit above the unit's width in its last byte is not 0 (log entry 4). -/
  | paddingBits
  /-- The direction byte of a register access is neither read nor write (log entry 4). -/
  | badDirection
  deriving DecidableEq, Repr

/-! ### The rows of the code groups -/

/-- One byte of R129: its two groups, RD- then RD+, and the two rows of the opcode table. -/
abbrev CodeRow := (Group × Group) × (Instr × Instr)

/-- R129, bytes 0x00 to 0x1F. -/
def codeRows0 : List CodeRow :=
  [((0x0B9#10, 0x346#10), (.d0_0neg, .d0_0pos)), ((0x0AE#10, 0x351#10), (.d1_0neg, .d1_0pos)),
   ((0x0AD#10, 0x352#10), (.d2_0neg, .d2_0pos)), ((0x363#10, 0x0A3#10), (.d3_0neg, .d3_0pos)),
   ((0x0AB#10, 0x354#10), (.d4_0neg, .d4_0pos)), ((0x365#10, 0x0A5#10), (.d5_0neg, .d5_0pos)),
   ((0x366#10, 0x0A6#10), (.d6_0neg, .d6_0pos)), ((0x347#10, 0x0B8#10), (.d7_0neg, .d7_0pos)),
   ((0x0A7#10, 0x358#10), (.d8_0neg, .d8_0pos)), ((0x369#10, 0x0A9#10), (.d9_0neg, .d9_0pos)),
   ((0x36A#10, 0x0AA#10), (.d10_0neg, .d10_0pos)), ((0x34B#10, 0x08B#10), (.d11_0neg, .d11_0pos)),
   ((0x36C#10, 0x0AC#10), (.d12_0neg, .d12_0pos)), ((0x34D#10, 0x08D#10), (.d13_0neg, .d13_0pos)),
   ((0x34E#10, 0x08E#10), (.d14_0neg, .d14_0pos)), ((0x0BA#10, 0x345#10), (.d15_0neg, .d15_0pos)),
   ((0x0B6#10, 0x349#10), (.d16_0neg, .d16_0pos)), ((0x371#10, 0x0B1#10), (.d17_0neg, .d17_0pos)),
   ((0x372#10, 0x0B2#10), (.d18_0neg, .d18_0pos)), ((0x353#10, 0x093#10), (.d19_0neg, .d19_0pos)),
   ((0x374#10, 0x0B4#10), (.d20_0neg, .d20_0pos)), ((0x355#10, 0x095#10), (.d21_0neg, .d21_0pos)),
   ((0x356#10, 0x096#10), (.d22_0neg, .d22_0pos)), ((0x097#10, 0x368#10), (.d23_0neg, .d23_0pos)),
   ((0x0B3#10, 0x34C#10), (.d24_0neg, .d24_0pos)), ((0x359#10, 0x099#10), (.d25_0neg, .d25_0pos)),
   ((0x35A#10, 0x09A#10), (.d26_0neg, .d26_0pos)), ((0x09B#10, 0x364#10), (.d27_0neg, .d27_0pos)),
   ((0x35C#10, 0x09C#10), (.d28_0neg, .d28_0pos)), ((0x09D#10, 0x362#10), (.d29_0neg, .d29_0pos)),
   ((0x09E#10, 0x361#10), (.d30_0neg, .d30_0pos)), ((0x0B5#10, 0x34A#10), (.d31_0neg, .d31_0pos))]

/-- R129, bytes 0x20 to 0x3F. -/
def codeRows1 : List CodeRow :=
  [((0x279#10, 0x246#10), (.d0_1neg, .d0_1pos)), ((0x26E#10, 0x251#10), (.d1_1neg, .d1_1pos)),
   ((0x26D#10, 0x252#10), (.d2_1neg, .d2_1pos)), ((0x263#10, 0x263#10), (.d3_1neg, .d3_1pos)),
   ((0x26B#10, 0x254#10), (.d4_1neg, .d4_1pos)), ((0x265#10, 0x265#10), (.d5_1neg, .d5_1pos)),
   ((0x266#10, 0x266#10), (.d6_1neg, .d6_1pos)), ((0x247#10, 0x278#10), (.d7_1neg, .d7_1pos)),
   ((0x267#10, 0x258#10), (.d8_1neg, .d8_1pos)), ((0x269#10, 0x269#10), (.d9_1neg, .d9_1pos)),
   ((0x26A#10, 0x26A#10), (.d10_1neg, .d10_1pos)), ((0x24B#10, 0x24B#10), (.d11_1neg, .d11_1pos)),
   ((0x26C#10, 0x26C#10), (.d12_1neg, .d12_1pos)), ((0x24D#10, 0x24D#10), (.d13_1neg, .d13_1pos)),
   ((0x24E#10, 0x24E#10), (.d14_1neg, .d14_1pos)), ((0x27A#10, 0x245#10), (.d15_1neg, .d15_1pos)),
   ((0x276#10, 0x249#10), (.d16_1neg, .d16_1pos)), ((0x271#10, 0x271#10), (.d17_1neg, .d17_1pos)),
   ((0x272#10, 0x272#10), (.d18_1neg, .d18_1pos)), ((0x253#10, 0x253#10), (.d19_1neg, .d19_1pos)),
   ((0x274#10, 0x274#10), (.d20_1neg, .d20_1pos)), ((0x255#10, 0x255#10), (.d21_1neg, .d21_1pos)),
   ((0x256#10, 0x256#10), (.d22_1neg, .d22_1pos)), ((0x257#10, 0x268#10), (.d23_1neg, .d23_1pos)),
   ((0x273#10, 0x24C#10), (.d24_1neg, .d24_1pos)), ((0x259#10, 0x259#10), (.d25_1neg, .d25_1pos)),
   ((0x25A#10, 0x25A#10), (.d26_1neg, .d26_1pos)), ((0x25B#10, 0x264#10), (.d27_1neg, .d27_1pos)),
   ((0x25C#10, 0x25C#10), (.d28_1neg, .d28_1pos)), ((0x25D#10, 0x262#10), (.d29_1neg, .d29_1pos)),
   ((0x25E#10, 0x261#10), (.d30_1neg, .d30_1pos)), ((0x275#10, 0x24A#10), (.d31_1neg, .d31_1pos))]

/-- R129, bytes 0x40 to 0x5F. -/
def codeRows2 : List CodeRow :=
  [((0x2B9#10, 0x286#10), (.d0_2neg, .d0_2pos)), ((0x2AE#10, 0x291#10), (.d1_2neg, .d1_2pos)),
   ((0x2AD#10, 0x292#10), (.d2_2neg, .d2_2pos)), ((0x2A3#10, 0x2A3#10), (.d3_2neg, .d3_2pos)),
   ((0x2AB#10, 0x294#10), (.d4_2neg, .d4_2pos)), ((0x2A5#10, 0x2A5#10), (.d5_2neg, .d5_2pos)),
   ((0x2A6#10, 0x2A6#10), (.d6_2neg, .d6_2pos)), ((0x287#10, 0x2B8#10), (.d7_2neg, .d7_2pos)),
   ((0x2A7#10, 0x298#10), (.d8_2neg, .d8_2pos)), ((0x2A9#10, 0x2A9#10), (.d9_2neg, .d9_2pos)),
   ((0x2AA#10, 0x2AA#10), (.d10_2neg, .d10_2pos)), ((0x28B#10, 0x28B#10), (.d11_2neg, .d11_2pos)),
   ((0x2AC#10, 0x2AC#10), (.d12_2neg, .d12_2pos)), ((0x28D#10, 0x28D#10), (.d13_2neg, .d13_2pos)),
   ((0x28E#10, 0x28E#10), (.d14_2neg, .d14_2pos)), ((0x2BA#10, 0x285#10), (.d15_2neg, .d15_2pos)),
   ((0x2B6#10, 0x289#10), (.d16_2neg, .d16_2pos)), ((0x2B1#10, 0x2B1#10), (.d17_2neg, .d17_2pos)),
   ((0x2B2#10, 0x2B2#10), (.d18_2neg, .d18_2pos)), ((0x293#10, 0x293#10), (.d19_2neg, .d19_2pos)),
   ((0x2B4#10, 0x2B4#10), (.d20_2neg, .d20_2pos)), ((0x295#10, 0x295#10), (.d21_2neg, .d21_2pos)),
   ((0x296#10, 0x296#10), (.d22_2neg, .d22_2pos)), ((0x297#10, 0x2A8#10), (.d23_2neg, .d23_2pos)),
   ((0x2B3#10, 0x28C#10), (.d24_2neg, .d24_2pos)), ((0x299#10, 0x299#10), (.d25_2neg, .d25_2pos)),
   ((0x29A#10, 0x29A#10), (.d26_2neg, .d26_2pos)), ((0x29B#10, 0x2A4#10), (.d27_2neg, .d27_2pos)),
   ((0x29C#10, 0x29C#10), (.d28_2neg, .d28_2pos)), ((0x29D#10, 0x2A2#10), (.d29_2neg, .d29_2pos)),
   ((0x29E#10, 0x2A1#10), (.d30_2neg, .d30_2pos)), ((0x2B5#10, 0x28A#10), (.d31_2neg, .d31_2pos))]

/-- R129, bytes 0x60 to 0x7F. -/
def codeRows3 : List CodeRow :=
  [((0x339#10, 0x0C6#10), (.d0_3neg, .d0_3pos)), ((0x32E#10, 0x0D1#10), (.d1_3neg, .d1_3pos)),
   ((0x32D#10, 0x0D2#10), (.d2_3neg, .d2_3pos)), ((0x0E3#10, 0x323#10), (.d3_3neg, .d3_3pos)),
   ((0x32B#10, 0x0D4#10), (.d4_3neg, .d4_3pos)), ((0x0E5#10, 0x325#10), (.d5_3neg, .d5_3pos)),
   ((0x0E6#10, 0x326#10), (.d6_3neg, .d6_3pos)), ((0x0C7#10, 0x338#10), (.d7_3neg, .d7_3pos)),
   ((0x327#10, 0x0D8#10), (.d8_3neg, .d8_3pos)), ((0x0E9#10, 0x329#10), (.d9_3neg, .d9_3pos)),
   ((0x0EA#10, 0x32A#10), (.d10_3neg, .d10_3pos)), ((0x0CB#10, 0x30B#10), (.d11_3neg, .d11_3pos)),
   ((0x0EC#10, 0x32C#10), (.d12_3neg, .d12_3pos)), ((0x0CD#10, 0x30D#10), (.d13_3neg, .d13_3pos)),
   ((0x0CE#10, 0x30E#10), (.d14_3neg, .d14_3pos)), ((0x33A#10, 0x0C5#10), (.d15_3neg, .d15_3pos)),
   ((0x336#10, 0x0C9#10), (.d16_3neg, .d16_3pos)), ((0x0F1#10, 0x331#10), (.d17_3neg, .d17_3pos)),
   ((0x0F2#10, 0x332#10), (.d18_3neg, .d18_3pos)), ((0x0D3#10, 0x313#10), (.d19_3neg, .d19_3pos)),
   ((0x0F4#10, 0x334#10), (.d20_3neg, .d20_3pos)), ((0x0D5#10, 0x315#10), (.d21_3neg, .d21_3pos)),
   ((0x0D6#10, 0x316#10), (.d22_3neg, .d22_3pos)), ((0x317#10, 0x0E8#10), (.d23_3neg, .d23_3pos)),
   ((0x333#10, 0x0CC#10), (.d24_3neg, .d24_3pos)), ((0x0D9#10, 0x319#10), (.d25_3neg, .d25_3pos)),
   ((0x0DA#10, 0x31A#10), (.d26_3neg, .d26_3pos)), ((0x31B#10, 0x0E4#10), (.d27_3neg, .d27_3pos)),
   ((0x0DC#10, 0x31C#10), (.d28_3neg, .d28_3pos)), ((0x31D#10, 0x0E2#10), (.d29_3neg, .d29_3pos)),
   ((0x31E#10, 0x0E1#10), (.d30_3neg, .d30_3pos)), ((0x335#10, 0x0CA#10), (.d31_3neg, .d31_3pos))]

/-- R129, bytes 0x80 to 0x9F. -/
def codeRows4 : List CodeRow :=
  [((0x139#10, 0x2C6#10), (.d0_4neg, .d0_4pos)), ((0x12E#10, 0x2D1#10), (.d1_4neg, .d1_4pos)),
   ((0x12D#10, 0x2D2#10), (.d2_4neg, .d2_4pos)), ((0x2E3#10, 0x123#10), (.d3_4neg, .d3_4pos)),
   ((0x12B#10, 0x2D4#10), (.d4_4neg, .d4_4pos)), ((0x2E5#10, 0x125#10), (.d5_4neg, .d5_4pos)),
   ((0x2E6#10, 0x126#10), (.d6_4neg, .d6_4pos)), ((0x2C7#10, 0x138#10), (.d7_4neg, .d7_4pos)),
   ((0x127#10, 0x2D8#10), (.d8_4neg, .d8_4pos)), ((0x2E9#10, 0x129#10), (.d9_4neg, .d9_4pos)),
   ((0x2EA#10, 0x12A#10), (.d10_4neg, .d10_4pos)), ((0x2CB#10, 0x10B#10), (.d11_4neg, .d11_4pos)),
   ((0x2EC#10, 0x12C#10), (.d12_4neg, .d12_4pos)), ((0x2CD#10, 0x10D#10), (.d13_4neg, .d13_4pos)),
   ((0x2CE#10, 0x10E#10), (.d14_4neg, .d14_4pos)), ((0x13A#10, 0x2C5#10), (.d15_4neg, .d15_4pos)),
   ((0x136#10, 0x2C9#10), (.d16_4neg, .d16_4pos)), ((0x2F1#10, 0x131#10), (.d17_4neg, .d17_4pos)),
   ((0x2F2#10, 0x132#10), (.d18_4neg, .d18_4pos)), ((0x2D3#10, 0x113#10), (.d19_4neg, .d19_4pos)),
   ((0x2F4#10, 0x134#10), (.d20_4neg, .d20_4pos)), ((0x2D5#10, 0x115#10), (.d21_4neg, .d21_4pos)),
   ((0x2D6#10, 0x116#10), (.d22_4neg, .d22_4pos)), ((0x117#10, 0x2E8#10), (.d23_4neg, .d23_4pos)),
   ((0x133#10, 0x2CC#10), (.d24_4neg, .d24_4pos)), ((0x2D9#10, 0x119#10), (.d25_4neg, .d25_4pos)),
   ((0x2DA#10, 0x11A#10), (.d26_4neg, .d26_4pos)), ((0x11B#10, 0x2E4#10), (.d27_4neg, .d27_4pos)),
   ((0x2DC#10, 0x11C#10), (.d28_4neg, .d28_4pos)), ((0x11D#10, 0x2E2#10), (.d29_4neg, .d29_4pos)),
   ((0x11E#10, 0x2E1#10), (.d30_4neg, .d30_4pos)), ((0x135#10, 0x2CA#10), (.d31_4neg, .d31_4pos))]

/-- R129, bytes 0xA0 to 0xBF. -/
def codeRows5 : List CodeRow :=
  [((0x179#10, 0x146#10), (.d0_5neg, .d0_5pos)), ((0x16E#10, 0x151#10), (.d1_5neg, .d1_5pos)),
   ((0x16D#10, 0x152#10), (.d2_5neg, .d2_5pos)), ((0x163#10, 0x163#10), (.d3_5neg, .d3_5pos)),
   ((0x16B#10, 0x154#10), (.d4_5neg, .d4_5pos)), ((0x165#10, 0x165#10), (.d5_5neg, .d5_5pos)),
   ((0x166#10, 0x166#10), (.d6_5neg, .d6_5pos)), ((0x147#10, 0x178#10), (.d7_5neg, .d7_5pos)),
   ((0x167#10, 0x158#10), (.d8_5neg, .d8_5pos)), ((0x169#10, 0x169#10), (.d9_5neg, .d9_5pos)),
   ((0x16A#10, 0x16A#10), (.d10_5neg, .d10_5pos)), ((0x14B#10, 0x14B#10), (.d11_5neg, .d11_5pos)),
   ((0x16C#10, 0x16C#10), (.d12_5neg, .d12_5pos)), ((0x14D#10, 0x14D#10), (.d13_5neg, .d13_5pos)),
   ((0x14E#10, 0x14E#10), (.d14_5neg, .d14_5pos)), ((0x17A#10, 0x145#10), (.d15_5neg, .d15_5pos)),
   ((0x176#10, 0x149#10), (.d16_5neg, .d16_5pos)), ((0x171#10, 0x171#10), (.d17_5neg, .d17_5pos)),
   ((0x172#10, 0x172#10), (.d18_5neg, .d18_5pos)), ((0x153#10, 0x153#10), (.d19_5neg, .d19_5pos)),
   ((0x174#10, 0x174#10), (.d20_5neg, .d20_5pos)), ((0x155#10, 0x155#10), (.d21_5neg, .d21_5pos)),
   ((0x156#10, 0x156#10), (.d22_5neg, .d22_5pos)), ((0x157#10, 0x168#10), (.d23_5neg, .d23_5pos)),
   ((0x173#10, 0x14C#10), (.d24_5neg, .d24_5pos)), ((0x159#10, 0x159#10), (.d25_5neg, .d25_5pos)),
   ((0x15A#10, 0x15A#10), (.d26_5neg, .d26_5pos)), ((0x15B#10, 0x164#10), (.d27_5neg, .d27_5pos)),
   ((0x15C#10, 0x15C#10), (.d28_5neg, .d28_5pos)), ((0x15D#10, 0x162#10), (.d29_5neg, .d29_5pos)),
   ((0x15E#10, 0x161#10), (.d30_5neg, .d30_5pos)), ((0x175#10, 0x14A#10), (.d31_5neg, .d31_5pos))]

/-- R129, bytes 0xC0 to 0xDF. -/
def codeRows6 : List CodeRow :=
  [((0x1B9#10, 0x186#10), (.d0_6neg, .d0_6pos)), ((0x1AE#10, 0x191#10), (.d1_6neg, .d1_6pos)),
   ((0x1AD#10, 0x192#10), (.d2_6neg, .d2_6pos)), ((0x1A3#10, 0x1A3#10), (.d3_6neg, .d3_6pos)),
   ((0x1AB#10, 0x194#10), (.d4_6neg, .d4_6pos)), ((0x1A5#10, 0x1A5#10), (.d5_6neg, .d5_6pos)),
   ((0x1A6#10, 0x1A6#10), (.d6_6neg, .d6_6pos)), ((0x187#10, 0x1B8#10), (.d7_6neg, .d7_6pos)),
   ((0x1A7#10, 0x198#10), (.d8_6neg, .d8_6pos)), ((0x1A9#10, 0x1A9#10), (.d9_6neg, .d9_6pos)),
   ((0x1AA#10, 0x1AA#10), (.d10_6neg, .d10_6pos)), ((0x18B#10, 0x18B#10), (.d11_6neg, .d11_6pos)),
   ((0x1AC#10, 0x1AC#10), (.d12_6neg, .d12_6pos)), ((0x18D#10, 0x18D#10), (.d13_6neg, .d13_6pos)),
   ((0x18E#10, 0x18E#10), (.d14_6neg, .d14_6pos)), ((0x1BA#10, 0x185#10), (.d15_6neg, .d15_6pos)),
   ((0x1B6#10, 0x189#10), (.d16_6neg, .d16_6pos)), ((0x1B1#10, 0x1B1#10), (.d17_6neg, .d17_6pos)),
   ((0x1B2#10, 0x1B2#10), (.d18_6neg, .d18_6pos)), ((0x193#10, 0x193#10), (.d19_6neg, .d19_6pos)),
   ((0x1B4#10, 0x1B4#10), (.d20_6neg, .d20_6pos)), ((0x195#10, 0x195#10), (.d21_6neg, .d21_6pos)),
   ((0x196#10, 0x196#10), (.d22_6neg, .d22_6pos)), ((0x197#10, 0x1A8#10), (.d23_6neg, .d23_6pos)),
   ((0x1B3#10, 0x18C#10), (.d24_6neg, .d24_6pos)), ((0x199#10, 0x199#10), (.d25_6neg, .d25_6pos)),
   ((0x19A#10, 0x19A#10), (.d26_6neg, .d26_6pos)), ((0x19B#10, 0x1A4#10), (.d27_6neg, .d27_6pos)),
   ((0x19C#10, 0x19C#10), (.d28_6neg, .d28_6pos)), ((0x19D#10, 0x1A2#10), (.d29_6neg, .d29_6pos)),
   ((0x19E#10, 0x1A1#10), (.d30_6neg, .d30_6pos)), ((0x1B5#10, 0x18A#10), (.d31_6neg, .d31_6pos))]

/-- R129, bytes 0xE0 to 0xFF. -/
def codeRows7 : List CodeRow :=
  [((0x239#10, 0x1C6#10), (.d0_7neg, .d0_7pos)), ((0x22E#10, 0x1D1#10), (.d1_7neg, .d1_7pos)),
   ((0x22D#10, 0x1D2#10), (.d2_7neg, .d2_7pos)), ((0x1E3#10, 0x223#10), (.d3_7neg, .d3_7pos)),
   ((0x22B#10, 0x1D4#10), (.d4_7neg, .d4_7pos)), ((0x1E5#10, 0x225#10), (.d5_7neg, .d5_7pos)),
   ((0x1E6#10, 0x226#10), (.d6_7neg, .d6_7pos)), ((0x1C7#10, 0x238#10), (.d7_7neg, .d7_7pos)),
   ((0x227#10, 0x1D8#10), (.d8_7neg, .d8_7pos)), ((0x1E9#10, 0x229#10), (.d9_7neg, .d9_7pos)),
   ((0x1EA#10, 0x22A#10), (.d10_7neg, .d10_7pos)), ((0x1CB#10, 0x04B#10), (.d11_7neg, .d11_7pos)),
   ((0x1EC#10, 0x22C#10), (.d12_7neg, .d12_7pos)), ((0x1CD#10, 0x04D#10), (.d13_7neg, .d13_7pos)),
   ((0x1CE#10, 0x04E#10), (.d14_7neg, .d14_7pos)), ((0x23A#10, 0x1C5#10), (.d15_7neg, .d15_7pos)),
   ((0x236#10, 0x1C9#10), (.d16_7neg, .d16_7pos)), ((0x3B1#10, 0x231#10), (.d17_7neg, .d17_7pos)),
   ((0x3B2#10, 0x232#10), (.d18_7neg, .d18_7pos)), ((0x1D3#10, 0x213#10), (.d19_7neg, .d19_7pos)),
   ((0x3B4#10, 0x234#10), (.d20_7neg, .d20_7pos)), ((0x1D5#10, 0x215#10), (.d21_7neg, .d21_7pos)),
   ((0x1D6#10, 0x216#10), (.d22_7neg, .d22_7pos)), ((0x217#10, 0x1E8#10), (.d23_7neg, .d23_7pos)),
   ((0x233#10, 0x1CC#10), (.d24_7neg, .d24_7pos)), ((0x1D9#10, 0x219#10), (.d25_7neg, .d25_7pos)),
   ((0x1DA#10, 0x21A#10), (.d26_7neg, .d26_7pos)), ((0x21B#10, 0x1E4#10), (.d27_7neg, .d27_7pos)),
   ((0x1DC#10, 0x21C#10), (.d28_7neg, .d28_7pos)), ((0x21D#10, 0x1E2#10), (.d29_7neg, .d29_7pos)),
   ((0x21E#10, 0x1E1#10), (.d30_7neg, .d30_7pos)), ((0x235#10, 0x1CA#10), (.d31_7neg, .d31_7pos))]

/-- The two control groups (30_encoding.md R91). -/
def controlRows : List CodeRow :=
  [((0x17C#10, 0x283#10), (.k28_5neg, .k28_5pos)), ((0x05B#10, 0x3A4#10), (.k27_7neg, .k27_7pos))]

/-- The 258 rows of each running disparity. -/
def codeRows : List CodeRow :=
  codeRows0 ++ codeRows1 ++ codeRows2 ++ codeRows3 ++ codeRows4 ++ codeRows5 ++ codeRows6 ++ codeRows7 ++ controlRows

/-! ### Decoding each format -/

/-- A received group: the row legal under `rd` that has these bits, else INVALID_GROUP (R92). -/
def decodeGroup (rd : RD) (g : Group) : Instr :=
  match codeRows.find? (fun r => column r.1 rd == g) with
  | some r => column r.2 rd
  | none => .invalidGroup rd g

/-- An aligned line word under `rd`, by its class (40_linecodec.md R123). -/
def decodeLine (rd : RD) (w : LineWord) : Instr :=
  match classify (decodeWord w rd).1 with
  | .idle => column (.idleNeg, .idlePos) rd
  | .sof => column (.sofNeg, .sofPos) rd
  | .data d => .lineData rd d
  | .err => .lineErr rd w

/-- A frame's header, with its ADDR and DATA words (R86, R90, R94). -/
def decodeHeader (hdr addr data : Word) : Instr :=
  if hdr.extractLsb' 12 20 = 0#20 then
    if hdr.extractLsb' 0 8 = 0x01#8 then .msgWrite (hdr.extractLsb' 8 4) addr data
    else if hdr.extractLsb' 0 8 = 0x02#8 then .msgRead (hdr.extractLsb' 8 4) addr data
    else if hdr.extractLsb' 0 8 = 0x03#8 then .msgResponse (hdr.extractLsb' 8 4) addr data
    else .malformedHeader hdr addr data
  else .malformedHeader hdr addr data

/-- A host read of the register block (47_control.md R285). -/
def decodeRead (off : Word) : Instr :=
  if off = 0x00#32 then .csrrControl
  else if off = 0x04#32 then .csrrStatus
  else if off = 0x08#32 then .csrrClear
  else if off = 0x0C#32 then .csrrFrameDropCount
  else if off = 0x10#32 then .csrrDecodeErrorCount
  else .csrReserved false off 0#32

/-- A host write of the register block (47_control.md R285). -/
def decodeWrite (off val : Word) : Instr :=
  if off = 0x00#32 then .csrwControl val
  else if off = 0x04#32 then .csrwStatus val
  else if off = 0x08#32 then .csrwClear val
  else if off = 0x0C#32 then .csrwFrameDropCount val
  else if off = 0x10#32 then .csrwDecodeErrorCount val
  else .csrReserved true off val

/-- A local-bus transaction, by its `we` bit (10_state.md R25). -/
def decodeTxn (we : Bool) (addr data : Word) (be : ByteEnable) : Instr :=
  if we then .txnWr addr data be else .txnRd addr data be

/-- The instruction a unit's bits stand for. -/
def decodeImage : Image → Instr
  | .group rd g => decodeGroup rd g
  | .line rd w => decodeLine rd w
  | .header hdr addr data => decodeHeader hdr addr data
  | .readAccess off => decodeRead off
  | .writeAccess off val => decodeWrite off val
  | .txn we addr data be => decodeTxn we addr data be

/-! ### Bytes -/

/-- The `n` low bytes of a number, the least significant first (20_memory.md R64). -/
def bytesOf : Nat → Nat → List Byte
  | 0, _ => []
  | n + 1, v => BitVec.ofNat 8 v :: bytesOf n (v / 256)

/-- The number a list of bytes stands for, the least significant first. -/
def natOfBytes : List Byte → Nat
  | [] => 0
  | b :: bs => b.toNat + 256 * natOfBytes bs

/-- Take a number of `n` bytes from the front. -/
def takeNat (n : Nat) (bs : List Byte) : Except DecodeError (Nat × List Byte) :=
  if (bs.take n).length = n then .ok (natOfBytes (bs.take n), bs.drop n) else .error .tooShort

/-- Take a number of `n` bytes that must fit in `width` bits. -/
def takeBits (width n : Nat) (bs : List Byte) : Except DecodeError (BitVec width × List Byte) := do
  let (v, rest) ← takeNat n bs
  if v < 2 ^ width then pure (BitVec.ofNat width v, rest) else throw .paddingBits

/-- Read one unit of a format from the front of a list of bytes. `rd` is the running disparity it arrives under,
which the bits themselves do not tell. -/
def readImage (fmt : Format) (rd : RD) (bs : List Byte) : Except DecodeError (Image × List Byte) :=
  match fmt with
  | .codeGroup => do
    let (g, rest) ← takeBits 10 2 bs
    pure (.group rd g, rest)
  | .lineWord => do
    let (w, rest) ← takeBits 40 5 bs
    pure (.line rd w, rest)
  | .frameHeader => do
    let (hdr, bs) ← takeBits 32 4 bs
    let (addr, bs) ← takeBits 32 4 bs
    let (data, rest) ← takeBits 32 4 bs
    pure (.header hdr addr data, rest)
  | .registerAccess => do
    let (off, bs) ← takeBits 32 4 bs
    let (dir, bs) ← takeNat 1 bs
    if dir = 0 then pure (.readAccess off, bs)
    else if dir = 1 then do
      let (val, rest) ← takeBits 32 4 bs
      pure (.writeAccess off val, rest)
    else throw .badDirection
  | .busTxn => do
    let (we, bs) ← takeBits 1 1 bs
    let (addr, bs) ← takeBits 32 4 bs
    let (data, bs) ← takeBits 32 4 bs
    let (be, rest) ← takeBits 4 1 bs
    pure (.txn (we == 1#1) addr data be, rest)

/-- The decoder: total on any bytes, rejecting by name. -/
def decode (fmt : Format) (rd : RD) (bs : List Byte) : Except DecodeError (Instr × List Byte) :=
  (readImage fmt rd bs).map (fun r => (decodeImage r.1, r.2))

/-! ### The encoder -/

/-- The header word of a message: `HDR = type | (be << 8)` (30_encoding.md R85). -/
def headerWord (type : Byte) (be : ByteEnable) : Word := type.zeroExtend 32 ||| (be.zeroExtend 32 <<< 8)

/-- The bits of an instruction, written from the spec's tables of encodings. -/
def Instr.image : Instr → Image
  | .d0_0neg => .group .neg 0x0B9#10
  | .d0_0pos => .group .pos 0x346#10
  | .d1_0neg => .group .neg 0x0AE#10
  | .d1_0pos => .group .pos 0x351#10
  | .d2_0neg => .group .neg 0x0AD#10
  | .d2_0pos => .group .pos 0x352#10
  | .d3_0neg => .group .neg 0x363#10
  | .d3_0pos => .group .pos 0x0A3#10
  | .d4_0neg => .group .neg 0x0AB#10
  | .d4_0pos => .group .pos 0x354#10
  | .d5_0neg => .group .neg 0x365#10
  | .d5_0pos => .group .pos 0x0A5#10
  | .d6_0neg => .group .neg 0x366#10
  | .d6_0pos => .group .pos 0x0A6#10
  | .d7_0neg => .group .neg 0x347#10
  | .d7_0pos => .group .pos 0x0B8#10
  | .d8_0neg => .group .neg 0x0A7#10
  | .d8_0pos => .group .pos 0x358#10
  | .d9_0neg => .group .neg 0x369#10
  | .d9_0pos => .group .pos 0x0A9#10
  | .d10_0neg => .group .neg 0x36A#10
  | .d10_0pos => .group .pos 0x0AA#10
  | .d11_0neg => .group .neg 0x34B#10
  | .d11_0pos => .group .pos 0x08B#10
  | .d12_0neg => .group .neg 0x36C#10
  | .d12_0pos => .group .pos 0x0AC#10
  | .d13_0neg => .group .neg 0x34D#10
  | .d13_0pos => .group .pos 0x08D#10
  | .d14_0neg => .group .neg 0x34E#10
  | .d14_0pos => .group .pos 0x08E#10
  | .d15_0neg => .group .neg 0x0BA#10
  | .d15_0pos => .group .pos 0x345#10
  | .d16_0neg => .group .neg 0x0B6#10
  | .d16_0pos => .group .pos 0x349#10
  | .d17_0neg => .group .neg 0x371#10
  | .d17_0pos => .group .pos 0x0B1#10
  | .d18_0neg => .group .neg 0x372#10
  | .d18_0pos => .group .pos 0x0B2#10
  | .d19_0neg => .group .neg 0x353#10
  | .d19_0pos => .group .pos 0x093#10
  | .d20_0neg => .group .neg 0x374#10
  | .d20_0pos => .group .pos 0x0B4#10
  | .d21_0neg => .group .neg 0x355#10
  | .d21_0pos => .group .pos 0x095#10
  | .d22_0neg => .group .neg 0x356#10
  | .d22_0pos => .group .pos 0x096#10
  | .d23_0neg => .group .neg 0x097#10
  | .d23_0pos => .group .pos 0x368#10
  | .d24_0neg => .group .neg 0x0B3#10
  | .d24_0pos => .group .pos 0x34C#10
  | .d25_0neg => .group .neg 0x359#10
  | .d25_0pos => .group .pos 0x099#10
  | .d26_0neg => .group .neg 0x35A#10
  | .d26_0pos => .group .pos 0x09A#10
  | .d27_0neg => .group .neg 0x09B#10
  | .d27_0pos => .group .pos 0x364#10
  | .d28_0neg => .group .neg 0x35C#10
  | .d28_0pos => .group .pos 0x09C#10
  | .d29_0neg => .group .neg 0x09D#10
  | .d29_0pos => .group .pos 0x362#10
  | .d30_0neg => .group .neg 0x09E#10
  | .d30_0pos => .group .pos 0x361#10
  | .d31_0neg => .group .neg 0x0B5#10
  | .d31_0pos => .group .pos 0x34A#10
  | .d0_1neg => .group .neg 0x279#10
  | .d0_1pos => .group .pos 0x246#10
  | .d1_1neg => .group .neg 0x26E#10
  | .d1_1pos => .group .pos 0x251#10
  | .d2_1neg => .group .neg 0x26D#10
  | .d2_1pos => .group .pos 0x252#10
  | .d3_1neg => .group .neg 0x263#10
  | .d3_1pos => .group .pos 0x263#10
  | .d4_1neg => .group .neg 0x26B#10
  | .d4_1pos => .group .pos 0x254#10
  | .d5_1neg => .group .neg 0x265#10
  | .d5_1pos => .group .pos 0x265#10
  | .d6_1neg => .group .neg 0x266#10
  | .d6_1pos => .group .pos 0x266#10
  | .d7_1neg => .group .neg 0x247#10
  | .d7_1pos => .group .pos 0x278#10
  | .d8_1neg => .group .neg 0x267#10
  | .d8_1pos => .group .pos 0x258#10
  | .d9_1neg => .group .neg 0x269#10
  | .d9_1pos => .group .pos 0x269#10
  | .d10_1neg => .group .neg 0x26A#10
  | .d10_1pos => .group .pos 0x26A#10
  | .d11_1neg => .group .neg 0x24B#10
  | .d11_1pos => .group .pos 0x24B#10
  | .d12_1neg => .group .neg 0x26C#10
  | .d12_1pos => .group .pos 0x26C#10
  | .d13_1neg => .group .neg 0x24D#10
  | .d13_1pos => .group .pos 0x24D#10
  | .d14_1neg => .group .neg 0x24E#10
  | .d14_1pos => .group .pos 0x24E#10
  | .d15_1neg => .group .neg 0x27A#10
  | .d15_1pos => .group .pos 0x245#10
  | .d16_1neg => .group .neg 0x276#10
  | .d16_1pos => .group .pos 0x249#10
  | .d17_1neg => .group .neg 0x271#10
  | .d17_1pos => .group .pos 0x271#10
  | .d18_1neg => .group .neg 0x272#10
  | .d18_1pos => .group .pos 0x272#10
  | .d19_1neg => .group .neg 0x253#10
  | .d19_1pos => .group .pos 0x253#10
  | .d20_1neg => .group .neg 0x274#10
  | .d20_1pos => .group .pos 0x274#10
  | .d21_1neg => .group .neg 0x255#10
  | .d21_1pos => .group .pos 0x255#10
  | .d22_1neg => .group .neg 0x256#10
  | .d22_1pos => .group .pos 0x256#10
  | .d23_1neg => .group .neg 0x257#10
  | .d23_1pos => .group .pos 0x268#10
  | .d24_1neg => .group .neg 0x273#10
  | .d24_1pos => .group .pos 0x24C#10
  | .d25_1neg => .group .neg 0x259#10
  | .d25_1pos => .group .pos 0x259#10
  | .d26_1neg => .group .neg 0x25A#10
  | .d26_1pos => .group .pos 0x25A#10
  | .d27_1neg => .group .neg 0x25B#10
  | .d27_1pos => .group .pos 0x264#10
  | .d28_1neg => .group .neg 0x25C#10
  | .d28_1pos => .group .pos 0x25C#10
  | .d29_1neg => .group .neg 0x25D#10
  | .d29_1pos => .group .pos 0x262#10
  | .d30_1neg => .group .neg 0x25E#10
  | .d30_1pos => .group .pos 0x261#10
  | .d31_1neg => .group .neg 0x275#10
  | .d31_1pos => .group .pos 0x24A#10
  | .d0_2neg => .group .neg 0x2B9#10
  | .d0_2pos => .group .pos 0x286#10
  | .d1_2neg => .group .neg 0x2AE#10
  | .d1_2pos => .group .pos 0x291#10
  | .d2_2neg => .group .neg 0x2AD#10
  | .d2_2pos => .group .pos 0x292#10
  | .d3_2neg => .group .neg 0x2A3#10
  | .d3_2pos => .group .pos 0x2A3#10
  | .d4_2neg => .group .neg 0x2AB#10
  | .d4_2pos => .group .pos 0x294#10
  | .d5_2neg => .group .neg 0x2A5#10
  | .d5_2pos => .group .pos 0x2A5#10
  | .d6_2neg => .group .neg 0x2A6#10
  | .d6_2pos => .group .pos 0x2A6#10
  | .d7_2neg => .group .neg 0x287#10
  | .d7_2pos => .group .pos 0x2B8#10
  | .d8_2neg => .group .neg 0x2A7#10
  | .d8_2pos => .group .pos 0x298#10
  | .d9_2neg => .group .neg 0x2A9#10
  | .d9_2pos => .group .pos 0x2A9#10
  | .d10_2neg => .group .neg 0x2AA#10
  | .d10_2pos => .group .pos 0x2AA#10
  | .d11_2neg => .group .neg 0x28B#10
  | .d11_2pos => .group .pos 0x28B#10
  | .d12_2neg => .group .neg 0x2AC#10
  | .d12_2pos => .group .pos 0x2AC#10
  | .d13_2neg => .group .neg 0x28D#10
  | .d13_2pos => .group .pos 0x28D#10
  | .d14_2neg => .group .neg 0x28E#10
  | .d14_2pos => .group .pos 0x28E#10
  | .d15_2neg => .group .neg 0x2BA#10
  | .d15_2pos => .group .pos 0x285#10
  | .d16_2neg => .group .neg 0x2B6#10
  | .d16_2pos => .group .pos 0x289#10
  | .d17_2neg => .group .neg 0x2B1#10
  | .d17_2pos => .group .pos 0x2B1#10
  | .d18_2neg => .group .neg 0x2B2#10
  | .d18_2pos => .group .pos 0x2B2#10
  | .d19_2neg => .group .neg 0x293#10
  | .d19_2pos => .group .pos 0x293#10
  | .d20_2neg => .group .neg 0x2B4#10
  | .d20_2pos => .group .pos 0x2B4#10
  | .d21_2neg => .group .neg 0x295#10
  | .d21_2pos => .group .pos 0x295#10
  | .d22_2neg => .group .neg 0x296#10
  | .d22_2pos => .group .pos 0x296#10
  | .d23_2neg => .group .neg 0x297#10
  | .d23_2pos => .group .pos 0x2A8#10
  | .d24_2neg => .group .neg 0x2B3#10
  | .d24_2pos => .group .pos 0x28C#10
  | .d25_2neg => .group .neg 0x299#10
  | .d25_2pos => .group .pos 0x299#10
  | .d26_2neg => .group .neg 0x29A#10
  | .d26_2pos => .group .pos 0x29A#10
  | .d27_2neg => .group .neg 0x29B#10
  | .d27_2pos => .group .pos 0x2A4#10
  | .d28_2neg => .group .neg 0x29C#10
  | .d28_2pos => .group .pos 0x29C#10
  | .d29_2neg => .group .neg 0x29D#10
  | .d29_2pos => .group .pos 0x2A2#10
  | .d30_2neg => .group .neg 0x29E#10
  | .d30_2pos => .group .pos 0x2A1#10
  | .d31_2neg => .group .neg 0x2B5#10
  | .d31_2pos => .group .pos 0x28A#10
  | .d0_3neg => .group .neg 0x339#10
  | .d0_3pos => .group .pos 0x0C6#10
  | .d1_3neg => .group .neg 0x32E#10
  | .d1_3pos => .group .pos 0x0D1#10
  | .d2_3neg => .group .neg 0x32D#10
  | .d2_3pos => .group .pos 0x0D2#10
  | .d3_3neg => .group .neg 0x0E3#10
  | .d3_3pos => .group .pos 0x323#10
  | .d4_3neg => .group .neg 0x32B#10
  | .d4_3pos => .group .pos 0x0D4#10
  | .d5_3neg => .group .neg 0x0E5#10
  | .d5_3pos => .group .pos 0x325#10
  | .d6_3neg => .group .neg 0x0E6#10
  | .d6_3pos => .group .pos 0x326#10
  | .d7_3neg => .group .neg 0x0C7#10
  | .d7_3pos => .group .pos 0x338#10
  | .d8_3neg => .group .neg 0x327#10
  | .d8_3pos => .group .pos 0x0D8#10
  | .d9_3neg => .group .neg 0x0E9#10
  | .d9_3pos => .group .pos 0x329#10
  | .d10_3neg => .group .neg 0x0EA#10
  | .d10_3pos => .group .pos 0x32A#10
  | .d11_3neg => .group .neg 0x0CB#10
  | .d11_3pos => .group .pos 0x30B#10
  | .d12_3neg => .group .neg 0x0EC#10
  | .d12_3pos => .group .pos 0x32C#10
  | .d13_3neg => .group .neg 0x0CD#10
  | .d13_3pos => .group .pos 0x30D#10
  | .d14_3neg => .group .neg 0x0CE#10
  | .d14_3pos => .group .pos 0x30E#10
  | .d15_3neg => .group .neg 0x33A#10
  | .d15_3pos => .group .pos 0x0C5#10
  | .d16_3neg => .group .neg 0x336#10
  | .d16_3pos => .group .pos 0x0C9#10
  | .d17_3neg => .group .neg 0x0F1#10
  | .d17_3pos => .group .pos 0x331#10
  | .d18_3neg => .group .neg 0x0F2#10
  | .d18_3pos => .group .pos 0x332#10
  | .d19_3neg => .group .neg 0x0D3#10
  | .d19_3pos => .group .pos 0x313#10
  | .d20_3neg => .group .neg 0x0F4#10
  | .d20_3pos => .group .pos 0x334#10
  | .d21_3neg => .group .neg 0x0D5#10
  | .d21_3pos => .group .pos 0x315#10
  | .d22_3neg => .group .neg 0x0D6#10
  | .d22_3pos => .group .pos 0x316#10
  | .d23_3neg => .group .neg 0x317#10
  | .d23_3pos => .group .pos 0x0E8#10
  | .d24_3neg => .group .neg 0x333#10
  | .d24_3pos => .group .pos 0x0CC#10
  | .d25_3neg => .group .neg 0x0D9#10
  | .d25_3pos => .group .pos 0x319#10
  | .d26_3neg => .group .neg 0x0DA#10
  | .d26_3pos => .group .pos 0x31A#10
  | .d27_3neg => .group .neg 0x31B#10
  | .d27_3pos => .group .pos 0x0E4#10
  | .d28_3neg => .group .neg 0x0DC#10
  | .d28_3pos => .group .pos 0x31C#10
  | .d29_3neg => .group .neg 0x31D#10
  | .d29_3pos => .group .pos 0x0E2#10
  | .d30_3neg => .group .neg 0x31E#10
  | .d30_3pos => .group .pos 0x0E1#10
  | .d31_3neg => .group .neg 0x335#10
  | .d31_3pos => .group .pos 0x0CA#10
  | .d0_4neg => .group .neg 0x139#10
  | .d0_4pos => .group .pos 0x2C6#10
  | .d1_4neg => .group .neg 0x12E#10
  | .d1_4pos => .group .pos 0x2D1#10
  | .d2_4neg => .group .neg 0x12D#10
  | .d2_4pos => .group .pos 0x2D2#10
  | .d3_4neg => .group .neg 0x2E3#10
  | .d3_4pos => .group .pos 0x123#10
  | .d4_4neg => .group .neg 0x12B#10
  | .d4_4pos => .group .pos 0x2D4#10
  | .d5_4neg => .group .neg 0x2E5#10
  | .d5_4pos => .group .pos 0x125#10
  | .d6_4neg => .group .neg 0x2E6#10
  | .d6_4pos => .group .pos 0x126#10
  | .d7_4neg => .group .neg 0x2C7#10
  | .d7_4pos => .group .pos 0x138#10
  | .d8_4neg => .group .neg 0x127#10
  | .d8_4pos => .group .pos 0x2D8#10
  | .d9_4neg => .group .neg 0x2E9#10
  | .d9_4pos => .group .pos 0x129#10
  | .d10_4neg => .group .neg 0x2EA#10
  | .d10_4pos => .group .pos 0x12A#10
  | .d11_4neg => .group .neg 0x2CB#10
  | .d11_4pos => .group .pos 0x10B#10
  | .d12_4neg => .group .neg 0x2EC#10
  | .d12_4pos => .group .pos 0x12C#10
  | .d13_4neg => .group .neg 0x2CD#10
  | .d13_4pos => .group .pos 0x10D#10
  | .d14_4neg => .group .neg 0x2CE#10
  | .d14_4pos => .group .pos 0x10E#10
  | .d15_4neg => .group .neg 0x13A#10
  | .d15_4pos => .group .pos 0x2C5#10
  | .d16_4neg => .group .neg 0x136#10
  | .d16_4pos => .group .pos 0x2C9#10
  | .d17_4neg => .group .neg 0x2F1#10
  | .d17_4pos => .group .pos 0x131#10
  | .d18_4neg => .group .neg 0x2F2#10
  | .d18_4pos => .group .pos 0x132#10
  | .d19_4neg => .group .neg 0x2D3#10
  | .d19_4pos => .group .pos 0x113#10
  | .d20_4neg => .group .neg 0x2F4#10
  | .d20_4pos => .group .pos 0x134#10
  | .d21_4neg => .group .neg 0x2D5#10
  | .d21_4pos => .group .pos 0x115#10
  | .d22_4neg => .group .neg 0x2D6#10
  | .d22_4pos => .group .pos 0x116#10
  | .d23_4neg => .group .neg 0x117#10
  | .d23_4pos => .group .pos 0x2E8#10
  | .d24_4neg => .group .neg 0x133#10
  | .d24_4pos => .group .pos 0x2CC#10
  | .d25_4neg => .group .neg 0x2D9#10
  | .d25_4pos => .group .pos 0x119#10
  | .d26_4neg => .group .neg 0x2DA#10
  | .d26_4pos => .group .pos 0x11A#10
  | .d27_4neg => .group .neg 0x11B#10
  | .d27_4pos => .group .pos 0x2E4#10
  | .d28_4neg => .group .neg 0x2DC#10
  | .d28_4pos => .group .pos 0x11C#10
  | .d29_4neg => .group .neg 0x11D#10
  | .d29_4pos => .group .pos 0x2E2#10
  | .d30_4neg => .group .neg 0x11E#10
  | .d30_4pos => .group .pos 0x2E1#10
  | .d31_4neg => .group .neg 0x135#10
  | .d31_4pos => .group .pos 0x2CA#10
  | .d0_5neg => .group .neg 0x179#10
  | .d0_5pos => .group .pos 0x146#10
  | .d1_5neg => .group .neg 0x16E#10
  | .d1_5pos => .group .pos 0x151#10
  | .d2_5neg => .group .neg 0x16D#10
  | .d2_5pos => .group .pos 0x152#10
  | .d3_5neg => .group .neg 0x163#10
  | .d3_5pos => .group .pos 0x163#10
  | .d4_5neg => .group .neg 0x16B#10
  | .d4_5pos => .group .pos 0x154#10
  | .d5_5neg => .group .neg 0x165#10
  | .d5_5pos => .group .pos 0x165#10
  | .d6_5neg => .group .neg 0x166#10
  | .d6_5pos => .group .pos 0x166#10
  | .d7_5neg => .group .neg 0x147#10
  | .d7_5pos => .group .pos 0x178#10
  | .d8_5neg => .group .neg 0x167#10
  | .d8_5pos => .group .pos 0x158#10
  | .d9_5neg => .group .neg 0x169#10
  | .d9_5pos => .group .pos 0x169#10
  | .d10_5neg => .group .neg 0x16A#10
  | .d10_5pos => .group .pos 0x16A#10
  | .d11_5neg => .group .neg 0x14B#10
  | .d11_5pos => .group .pos 0x14B#10
  | .d12_5neg => .group .neg 0x16C#10
  | .d12_5pos => .group .pos 0x16C#10
  | .d13_5neg => .group .neg 0x14D#10
  | .d13_5pos => .group .pos 0x14D#10
  | .d14_5neg => .group .neg 0x14E#10
  | .d14_5pos => .group .pos 0x14E#10
  | .d15_5neg => .group .neg 0x17A#10
  | .d15_5pos => .group .pos 0x145#10
  | .d16_5neg => .group .neg 0x176#10
  | .d16_5pos => .group .pos 0x149#10
  | .d17_5neg => .group .neg 0x171#10
  | .d17_5pos => .group .pos 0x171#10
  | .d18_5neg => .group .neg 0x172#10
  | .d18_5pos => .group .pos 0x172#10
  | .d19_5neg => .group .neg 0x153#10
  | .d19_5pos => .group .pos 0x153#10
  | .d20_5neg => .group .neg 0x174#10
  | .d20_5pos => .group .pos 0x174#10
  | .d21_5neg => .group .neg 0x155#10
  | .d21_5pos => .group .pos 0x155#10
  | .d22_5neg => .group .neg 0x156#10
  | .d22_5pos => .group .pos 0x156#10
  | .d23_5neg => .group .neg 0x157#10
  | .d23_5pos => .group .pos 0x168#10
  | .d24_5neg => .group .neg 0x173#10
  | .d24_5pos => .group .pos 0x14C#10
  | .d25_5neg => .group .neg 0x159#10
  | .d25_5pos => .group .pos 0x159#10
  | .d26_5neg => .group .neg 0x15A#10
  | .d26_5pos => .group .pos 0x15A#10
  | .d27_5neg => .group .neg 0x15B#10
  | .d27_5pos => .group .pos 0x164#10
  | .d28_5neg => .group .neg 0x15C#10
  | .d28_5pos => .group .pos 0x15C#10
  | .d29_5neg => .group .neg 0x15D#10
  | .d29_5pos => .group .pos 0x162#10
  | .d30_5neg => .group .neg 0x15E#10
  | .d30_5pos => .group .pos 0x161#10
  | .d31_5neg => .group .neg 0x175#10
  | .d31_5pos => .group .pos 0x14A#10
  | .d0_6neg => .group .neg 0x1B9#10
  | .d0_6pos => .group .pos 0x186#10
  | .d1_6neg => .group .neg 0x1AE#10
  | .d1_6pos => .group .pos 0x191#10
  | .d2_6neg => .group .neg 0x1AD#10
  | .d2_6pos => .group .pos 0x192#10
  | .d3_6neg => .group .neg 0x1A3#10
  | .d3_6pos => .group .pos 0x1A3#10
  | .d4_6neg => .group .neg 0x1AB#10
  | .d4_6pos => .group .pos 0x194#10
  | .d5_6neg => .group .neg 0x1A5#10
  | .d5_6pos => .group .pos 0x1A5#10
  | .d6_6neg => .group .neg 0x1A6#10
  | .d6_6pos => .group .pos 0x1A6#10
  | .d7_6neg => .group .neg 0x187#10
  | .d7_6pos => .group .pos 0x1B8#10
  | .d8_6neg => .group .neg 0x1A7#10
  | .d8_6pos => .group .pos 0x198#10
  | .d9_6neg => .group .neg 0x1A9#10
  | .d9_6pos => .group .pos 0x1A9#10
  | .d10_6neg => .group .neg 0x1AA#10
  | .d10_6pos => .group .pos 0x1AA#10
  | .d11_6neg => .group .neg 0x18B#10
  | .d11_6pos => .group .pos 0x18B#10
  | .d12_6neg => .group .neg 0x1AC#10
  | .d12_6pos => .group .pos 0x1AC#10
  | .d13_6neg => .group .neg 0x18D#10
  | .d13_6pos => .group .pos 0x18D#10
  | .d14_6neg => .group .neg 0x18E#10
  | .d14_6pos => .group .pos 0x18E#10
  | .d15_6neg => .group .neg 0x1BA#10
  | .d15_6pos => .group .pos 0x185#10
  | .d16_6neg => .group .neg 0x1B6#10
  | .d16_6pos => .group .pos 0x189#10
  | .d17_6neg => .group .neg 0x1B1#10
  | .d17_6pos => .group .pos 0x1B1#10
  | .d18_6neg => .group .neg 0x1B2#10
  | .d18_6pos => .group .pos 0x1B2#10
  | .d19_6neg => .group .neg 0x193#10
  | .d19_6pos => .group .pos 0x193#10
  | .d20_6neg => .group .neg 0x1B4#10
  | .d20_6pos => .group .pos 0x1B4#10
  | .d21_6neg => .group .neg 0x195#10
  | .d21_6pos => .group .pos 0x195#10
  | .d22_6neg => .group .neg 0x196#10
  | .d22_6pos => .group .pos 0x196#10
  | .d23_6neg => .group .neg 0x197#10
  | .d23_6pos => .group .pos 0x1A8#10
  | .d24_6neg => .group .neg 0x1B3#10
  | .d24_6pos => .group .pos 0x18C#10
  | .d25_6neg => .group .neg 0x199#10
  | .d25_6pos => .group .pos 0x199#10
  | .d26_6neg => .group .neg 0x19A#10
  | .d26_6pos => .group .pos 0x19A#10
  | .d27_6neg => .group .neg 0x19B#10
  | .d27_6pos => .group .pos 0x1A4#10
  | .d28_6neg => .group .neg 0x19C#10
  | .d28_6pos => .group .pos 0x19C#10
  | .d29_6neg => .group .neg 0x19D#10
  | .d29_6pos => .group .pos 0x1A2#10
  | .d30_6neg => .group .neg 0x19E#10
  | .d30_6pos => .group .pos 0x1A1#10
  | .d31_6neg => .group .neg 0x1B5#10
  | .d31_6pos => .group .pos 0x18A#10
  | .d0_7neg => .group .neg 0x239#10
  | .d0_7pos => .group .pos 0x1C6#10
  | .d1_7neg => .group .neg 0x22E#10
  | .d1_7pos => .group .pos 0x1D1#10
  | .d2_7neg => .group .neg 0x22D#10
  | .d2_7pos => .group .pos 0x1D2#10
  | .d3_7neg => .group .neg 0x1E3#10
  | .d3_7pos => .group .pos 0x223#10
  | .d4_7neg => .group .neg 0x22B#10
  | .d4_7pos => .group .pos 0x1D4#10
  | .d5_7neg => .group .neg 0x1E5#10
  | .d5_7pos => .group .pos 0x225#10
  | .d6_7neg => .group .neg 0x1E6#10
  | .d6_7pos => .group .pos 0x226#10
  | .d7_7neg => .group .neg 0x1C7#10
  | .d7_7pos => .group .pos 0x238#10
  | .d8_7neg => .group .neg 0x227#10
  | .d8_7pos => .group .pos 0x1D8#10
  | .d9_7neg => .group .neg 0x1E9#10
  | .d9_7pos => .group .pos 0x229#10
  | .d10_7neg => .group .neg 0x1EA#10
  | .d10_7pos => .group .pos 0x22A#10
  | .d11_7neg => .group .neg 0x1CB#10
  | .d11_7pos => .group .pos 0x04B#10
  | .d12_7neg => .group .neg 0x1EC#10
  | .d12_7pos => .group .pos 0x22C#10
  | .d13_7neg => .group .neg 0x1CD#10
  | .d13_7pos => .group .pos 0x04D#10
  | .d14_7neg => .group .neg 0x1CE#10
  | .d14_7pos => .group .pos 0x04E#10
  | .d15_7neg => .group .neg 0x23A#10
  | .d15_7pos => .group .pos 0x1C5#10
  | .d16_7neg => .group .neg 0x236#10
  | .d16_7pos => .group .pos 0x1C9#10
  | .d17_7neg => .group .neg 0x3B1#10
  | .d17_7pos => .group .pos 0x231#10
  | .d18_7neg => .group .neg 0x3B2#10
  | .d18_7pos => .group .pos 0x232#10
  | .d19_7neg => .group .neg 0x1D3#10
  | .d19_7pos => .group .pos 0x213#10
  | .d20_7neg => .group .neg 0x3B4#10
  | .d20_7pos => .group .pos 0x234#10
  | .d21_7neg => .group .neg 0x1D5#10
  | .d21_7pos => .group .pos 0x215#10
  | .d22_7neg => .group .neg 0x1D6#10
  | .d22_7pos => .group .pos 0x216#10
  | .d23_7neg => .group .neg 0x217#10
  | .d23_7pos => .group .pos 0x1E8#10
  | .d24_7neg => .group .neg 0x233#10
  | .d24_7pos => .group .pos 0x1CC#10
  | .d25_7neg => .group .neg 0x1D9#10
  | .d25_7pos => .group .pos 0x219#10
  | .d26_7neg => .group .neg 0x1DA#10
  | .d26_7pos => .group .pos 0x21A#10
  | .d27_7neg => .group .neg 0x21B#10
  | .d27_7pos => .group .pos 0x1E4#10
  | .d28_7neg => .group .neg 0x1DC#10
  | .d28_7pos => .group .pos 0x21C#10
  | .d29_7neg => .group .neg 0x21D#10
  | .d29_7pos => .group .pos 0x1E2#10
  | .d30_7neg => .group .neg 0x21E#10
  | .d30_7pos => .group .pos 0x1E1#10
  | .d31_7neg => .group .neg 0x235#10
  | .d31_7pos => .group .pos 0x1CA#10
  | .k28_5neg => .group .neg 0x17C#10
  | .k28_5pos => .group .pos 0x283#10
  | .k27_7neg => .group .neg 0x05B#10
  | .k27_7pos => .group .pos 0x3A4#10
  | .invalidGroup rd g => .group rd g
  | .idleNeg => .line .neg 0xD1B46D197C#40
  | .idlePos => .line .pos 0x2E4B92E683#40
  | .sofNeg => .line .neg 0x2E4B92E45B#40
  | .sofPos => .line .pos 0xD1B46D1BA4#40
  | .lineData rd d => .line rd (encodeWord (.data d) rd).1
  | .lineErr rd w => .line rd w
  | .msgWrite be addr data => .header (headerWord 0x01#8 be) addr data
  | .msgRead be addr data => .header (headerWord 0x02#8 be) addr data
  | .msgResponse be addr data => .header (headerWord 0x03#8 be) addr data
  | .malformedHeader hdr addr data => .header hdr addr data
  | .csrwControl val => .writeAccess 0x00#32 val
  | .csrrControl => .readAccess 0x00#32
  | .csrrStatus => .readAccess 0x04#32
  | .csrwStatus val => .writeAccess 0x04#32 val
  | .csrwClear val => .writeAccess 0x08#32 val
  | .csrrClear => .readAccess 0x08#32
  | .csrrFrameDropCount => .readAccess 0x0C#32
  | .csrrDecodeErrorCount => .readAccess 0x10#32
  | .csrwFrameDropCount val => .writeAccess 0x0C#32 val
  | .csrwDecodeErrorCount val => .writeAccess 0x10#32 val
  | .csrReserved write off val => if write then .writeAccess off val else .readAccess off
  | .txnWr addr data be => .txn true addr data be
  | .txnRd addr data be => .txn false addr data be

/-- The format of a unit. -/
def Image.format : Image → Format
  | .group _ _ => .codeGroup
  | .line _ _ => .lineWord
  | .header _ _ _ => .frameHeader
  | .readAccess _ => .registerAccess
  | .writeAccess _ _ => .registerAccess
  | .txn _ _ _ _ => .busTxn

/-- The running disparity a unit arrives under; units above the line code have none, and read as NEG. -/
def Image.rd : Image → RD
  | .group rd _ => rd
  | .line rd _ => rd
  | _ => .neg

/-- The bytes of a unit, each number with its least significant byte first (20_memory.md R64; log entry 4). -/
def Image.bytes : Image → List Byte
  | .group _ g => bytesOf 2 g.toNat
  | .line _ w => bytesOf 5 w.toNat
  | .header hdr addr data => bytesOf 4 hdr.toNat ++ bytesOf 4 addr.toNat ++ bytesOf 4 data.toNat
  | .readAccess off => bytesOf 4 off.toNat ++ [0#8]
  | .writeAccess off val => bytesOf 4 off.toNat ++ [1#8] ++ bytesOf 4 val.toNat
  | .txn we addr data be =>
    [if we then 1#8 else 0#8] ++ bytesOf 4 addr.toNat ++ bytesOf 4 data.toNat ++ bytesOf 1 be.toNat

/-- The encoder: the bytes of a well-formed instruction. -/
def encode (i : Instr) : List Byte := i.image.bytes

/-! ### The words of the opcode table -/

/-- The format whose rows have `nbits` bits and a word such as `w`. The table gives a row no format tag and a register
access no direction, and header words and register offsets are both 32 bits: log entry 5 says how they are told apart. -/
def tableFormat (nbits w : Nat) : Option Format :=
  if nbits = 8 then some .busTxn
  else if nbits = 16 then some .codeGroup
  else if nbits = 40 then some .lineWord
  else if nbits = 32 then
    if legalHeader (BitVec.ofNat 32 w) || decide (2 ^ 12 ≤ w) then some .frameHeader else some .registerAccess
  else none

/-- The running disparity under which a code group or a line word is legal: NEG, the reset value, where both are
(log entry 5). -/
def tableRd (fmt : Format) (w : Nat) : RD :=
  match fmt with
  | .codeGroup =>
    if symbolOf? (BitVec.ofNat 10 w) .neg = none ∧ symbolOf? (BitVec.ofNat 10 w) .pos ≠ none then .pos else .neg
  | .lineWord =>
    if classify (decodeWord (BitVec.ofNat 40 w) .neg).1 = .err ∧
        classify (decodeWord (BitVec.ofNat 40 w) .pos).1 ≠ .err then .pos else .neg
  | _ => .neg

/-- The unit whose bits are `w`, read from its bytes with every bit above `nbits` zero. -/
def tableImage (nbits w : Nat) : Option Image :=
  if w < 2 ^ nbits then
    match tableFormat nbits w with
    | none => none
    | some fmt =>
      match readImage fmt (tableRd fmt w) (bytesOf 16 w) with
      | .ok (img, _) => some img
      | .error _ => none
  else none

/-- The instruction the decoder reads from an instruction whose bits are `w`. -/
def decodeTableWord (nbits w : Nat) : Option Instr := (tableImage nbits w).map decodeImage

end Sys2Proof
end

