-- ==== Sys2Proof/Machine/State.lean ====
section
/-! DEFINITION. The state of one endpoint (10_state.md), with its ports, its local-bus environment and the schedule the
model takes as input (00_scope.md R12, R15; 92_eei_decisions.md D1, D54). Every field is plain data. -/

namespace Sys2Proof.Machine

/-- `LinkState` (R24). Codes 6 and 7 are never held, so they have no constructor. -/
inductive LinkState
  | reset
  | sendTraining
  | waitAlign
  | aligned
  | ready
  | error
  deriving DecidableEq, Repr

/-- `TxEntry` (R25). -/
inductive TxEntry
  | sof
  | data (d : Word)
  deriving DecidableEq, Repr

/-- `RxEntry` (R25). -/
inductive RxEntry
  | sof
  | data (d : Word)
  | err
  deriving DecidableEq, Repr

/-- `Message` (R25): the fields of one decoded frame. -/
structure Message where
  /-- TYPE, `HDR[7:0]`. -/
  mtype : Byte
  be : ByteEnable
  addr : Word
  data : Word
  deriving DecidableEq, Repr

/-- `BusTxn` (R25): a transaction of the requester's local bus. -/
structure BusTxn where
  /-- Write (`we = 1`) or read (`we = 0`). -/
  we : Bool
  addr : Word
  data : Word
  be : ByteEnable
  deriving DecidableEq, Repr

/-- `dep_state` (R45). -/
inductive DepState
  | hunt
  | collect
  deriving DecidableEq, Repr

/-- `req_state` (R47). -/
inductive ReqState
  | idle
  | writing
  | reading
  deriving DecidableEq, Repr

/-- `comp_op` (R48). -/
inductive CompOp
  | idle
  | busWrite (addr data : Word) (be : ByteEnable)
  | busRead (addr : Word) (be : ByteEnable) (stale : Bool)
  | respond
  deriving DecidableEq, Repr

/-- The events that make the LinkTrainer fall back to RESET or ERROR, each with a cause code (60_exceptions.md R301). -/
inductive FallBack
  | errThreshold
  | alignmentLoss
  | trainingTimeout
  | alignExhausted
  | confirmFail
  | hostReset
  | phyDown
  deriving DecidableEq, Repr

/-- The error events of 60_exceptions.md R300, as `raise` records them (00_scope.md R12). -/
inductive Event
  | codeViolation
  | fallBack (f : FallBack)
  | frameIntegrity
  | rxOverflow
  | unmatched (m : Message)
  deriving DecidableEq, Repr

/-- What the block signals to a local bus: a completion to the requester's (45_bustunnel.md R240), an issued cycle to
the completer's (R241). -/
inductive BusSignal
  | complete (txn : BusTxn) (value : Word)
  | memWrite (addr : Word) (be : ByteEnable) (data : Word)
  | memRead (addr : Word) (be : ByteEnable)
  deriving DecidableEq, Repr

/-- One atomic step of an agent or of its environment: what the schedule can name (R15, 46_endpoint.md R260, R270). -/
inductive Action
  /-- The power-up reset `rst` (70_reset_and_hazards.md R330). -/
  | rst
  /-- A line tick with the environment's raw word and transport status (46_endpoint.md R261). -/
  | tick (raw : LineWord) (phyReady rxIdle : Bool)
  /-- `PacketizerStep` (44_framer.md R209). -/
  | packetizer
  /-- `RequesterAcceptWrite` or `RequesterAcceptRead` of the presented transaction (45_bustunnel.md R237, R238). -/
  | accept
  /-- `DepacketizerStep` (44_framer.md R213). -/
  | depacketizer
  /-- `RequesterReceive` or `CompleterReceive` (45_bustunnel.md R239, R241). -/
  | receive
  /-- `CompleterBusDone` (45_bustunnel.md R242): a read takes the drawn value, or the local-bus memory's. -/
  | busDone (value : Option Word)
  /-- A host register access (47_control.md R285). -/
  | hostRead (off : Word)
  | hostWrite (off val : Word)
  /-- The requester's local bus presents a transaction (45_bustunnel.md R236). -/
  | present (txn : BusTxn)
  /-- One `Decode` of the LineCodec on the receive side (40_linecodec.md R119). -/
  | group (g : Group)
  /-- One `Encode` of the LineCodec on the transmit side (40_linecodec.md R118). -/
  | encode (k : Bool) (v : Byte)
  /-- A write by another master of the completer's local bus (20_memory.md R74). -/
  | otherMaster (addr : Word) (be : ByteEnable) (data : Word)
  deriving DecidableEq, Repr

/-- The line-domain state (R29 to R41), all of link scope. -/
structure Line where
  /-- `link_state` (R30). -/
  linkState : LinkState
  /-- `timer` (R31). -/
  timer : BitVec 32
  /-- `err_count` (R32). -/
  errCount : BitVec 16
  /-- `enc_rd` (R33). -/
  encRd : RD
  /-- `dec_rd` (R34). -/
  decRd : RD
  /-- `rx_prev` (R35). -/
  rxPrev : LineWord
  /-- `align_offset` (R36): in `0 .. W-1`. -/
  alignOffset : Fin 40
  /-- `lock` (R37). -/
  lock : Bool
  /-- `comma_run` and `drift_run` (R38). -/
  commaRun : BitVec 16
  driftRun : BitVec 16
  /-- `slip_count` (R39). -/
  slipCount : BitVec 32
  /-- `scr_state` (R40). -/
  scrState : BitVec 23
  /-- `dscr_state` (R41). -/
  dscrState : BitVec 23
  /-- `tx_last_idle` (R29). -/
  txLastIdle : Bool
  deriving DecidableEq, Repr

/-- The ClockDomainBridge (R42, R43), of link scope. -/
structure Bridge where
  /-- `txq`, capacity `TXQ_DEPTH` (R42). -/
  txq : List TxEntry
  /-- `rxq`, capacity `RXQ_DEPTH` (R43). -/
  rxq : List RxEntry
  deriving DecidableEq, Repr

/-- The bus-domain state (R44 to R48). The requester's part is used when `ROLE = master`, `compOp` when `ROLE = slave`. -/
structure Bus where
  /-- `pkt_words` (R44). -/
  pktWords : List TxEntry
  /-- `pkt_ack` (R44). -/
  pktAck : Bool
  /-- `dep_state` (R45). -/
  depState : DepState
  /-- `dep_buf` (R45). -/
  depBuf : List Word
  /-- `held` (R46). -/
  held : Option Message
  /-- `req_state` (R47). -/
  reqState : ReqState
  /-- `cur_txn` (R47). -/
  curTxn : Option BusTxn
  /-- `pending_read` (R47). -/
  pendingRead : Option Word
  /-- `comp_op` (R48). -/
  compOp : CompOp
  deriving DecidableEq, Repr

/-- The state behind the registers (R50, R52), all of persistent scope. -/
structure Regs where
  /-- `scr_bypass`. -/
  scrBypass : Bool
  /-- `link_reset_req`. -/
  linkResetReq : Bool
  /-- `cause`, codes of 60_exceptions.md R301. -/
  cause : BitVec 4
  /-- `rx_overflow`. -/
  rxOverflow : Bool
  /-- `frame_drop_count`. -/
  frameDropCount : Word
  /-- `decode_error_count`. -/
  decodeErrorCount : Word
  /-- `rx_idle_last` (R52). -/
  rxIdleLast : Bool
  /-- `phy_ready_last` (R52). -/
  phyReadyLast : Bool
  deriving DecidableEq, Repr

/-- The ports of the endpoint: the values the environment holds on its inputs and the values last driven. -/
structure Ports where
  /-- `raw`, `phy_ready` and `rx_idle` as the transport holds them (46_endpoint.md R262). -/
  rawIn : LineWord
  phyReadyIn : Bool
  rxIdleIn : Bool
  /-- The transaction the requester's local bus presents, held until it is completed (45_bustunnel.md R236). -/
  txnIn : Option BusTxn
  /-- `tx`, `comma_detected`, `bitslip_request` and `delay_calibrate` of the last line tick (46_endpoint.md R262). -/
  tx : LineWord
  commaDetected : Bool
  bitslipRequest : Bool
  delayCalibrate : Bool
  /-- The value of the last CSRR (47_control.md R285). -/
  hostValue : Word
  /-- The group of the last single `Encode` (the model's own: an output of 40_linecodec.md R118). -/
  encGroup : Group
  deriving DecidableEq, Repr

/-- The receive path inside a tick (the model's own: wires of 46_endpoint.md R261, kept for the instruction's meaning). -/
structure RxPath where
  /-- `window` of 41_bitaligner.md R140: the raw word above the previous one. -/
  window : BitVec 80
  /-- The lanes of the current word decoded so far: `res` of 40_linecodec.md R122. -/
  lanes : List LaneResult
  deriving DecidableEq, Repr

/-- The state of an endpoint and of what it is connected to. -/
structure State where
  /-- The build (00_scope.md R7); no step writes it. -/
  cfg : Params
  line : Line
  bridge : Bridge
  bus : Bus
  regs : Regs
  ports : Ports
  rx : RxPath
  /-- The memory on the completer's local bus (46_endpoint.md R271, R273; the block owns none, 20_memory.md), in the
  canonical form of `Memory.wf`. -/
  mem : List Host.Cell
  /-- The schedule still to run: the environment's draws, in order (R12; 92_eei_decisions.md D1). -/
  agenda : List Action
  /-- The events raised, in order (R12). -/
  events : List Event
  /-- The signals given to the local buses, in order. -/
  busLog : List BusSignal
  /-- The number of the last line tick since `rst` (46_endpoint.md R260). -/
  tick : Nat
  deriving DecidableEq, Repr

/-- Why the machine stops in a fault (60_exceptions.md R316). Neither is reached by a correctly built endpoint. -/
inductive Fault
  /-- `Encode` was given a `(k, v)` outside the alphabet. Raised by a single `Encode` step (40_linecodec.md R118).
  Safe: the spec calls it a Fault. -/
  | encodeOutsideAlphabet (k : Bool) (v : Byte)
  /-- A reserved cause code is held in `cause`. Raised by every step from such a state, and by the STATUS read itself
  (60_exceptions.md R301, R316). Safe: the spec calls it a Fault. -/
  | reservedCause (code : BitVec 4)
  deriving DecidableEq, Repr

/-- Why the model gives no step at all. -/
inductive Refusal
  /-- An instruction without a meaning yet. Raised by no arm of this model. Safe. -/
  | notModelled (mnemonic : String)
  /-- A build with `LANES` other than 4 or a parameter outside its range. Raised by `step` (00_scope.md R7, R8;
  60_exceptions.md R316). Safe: the spec says a model refuses it. -/
  | illegalBuild
  /-- Two endpoints that do not form a link. Raised by the composition's step (00_scope.md R9; 45_bustunnel.md R235).
  Safe: the spec says a model refuses it. -/
  | mismatchedLink
  deriving DecidableEq, Repr

/-! ### Reset values (70_reset_and_hazards.md R332) -/

/-- The line-domain state after a reset (R29 to R41). -/
def Line.reset (cfg : Params) : Line :=
  { linkState := .reset, timer := 0, errCount := 0, encRd := .neg, decRd := .neg, rxPrev := 0, alignOffset := 0,
    lock := false, commaRun := 0, driftRun := 0, slipCount := 0, scrState := cfg.scrSeed, dscrState := cfg.scrSeed,
    txLastIdle := true }

/-- Empty bridge queues (R42, R43). -/
def Bridge.reset : Bridge := { txq := [], rxq := [] }

/-- The bus-domain state after `rst` (R44 to R48). -/
def Bus.reset : Bus :=
  { pktWords := [], pktAck := false, depState := .hunt, depBuf := [], held := none, reqState := .idle, curTxn := none,
    pendingRead := none, compOp := .idle }

/-- The state behind the registers after `rst` (R50, R52). -/
def Regs.reset : Regs :=
  { scrBypass := false, linkResetReq := false, cause := 0, rxOverflow := false, frameDropCount := 0,
    decodeErrorCount := 0, rxIdleLast := false, phyReadyLast := false }

/-- The ports after `rst`: the inputs as the conventions of 95_test_vectors.md hold them (`phy_ready = 1`, `rx_idle = 0`,
a silent line), nothing driven yet (DESIGN CHOICE, log entry 2). -/
def Ports.reset : Ports :=
  { rawIn := 0, phyReadyIn := true, rxIdleIn := false, txnIn := none, tx := 0, commaDetected := false,
    bitslipRequest := false, delayCalibrate := false, hostValue := 0, encGroup := 0 }

/-- No word is being received. -/
def RxPath.reset : RxPath := { window := 0, lanes := [] }

/-- An endpoint of a given build right after `rst` (R330, R332). -/
def State.resetOf (cfg : Params) : State :=
  { cfg := cfg, line := Line.reset cfg, bridge := Bridge.reset, bus := Bus.reset, regs := Regs.reset,
    ports := Ports.reset, rx := RxPath.reset, mem := [], agenda := [], events := [], busLog := [], tick := 0 }

/-- The machine right after reset: the default build as a master (DESIGN CHOICE, log entry 1: `ROLE` has no default). -/
def State.reset : State := State.resetOf (Params.default .master)

/-! ### Replacing one part of the state -/

/-- Replace the line-domain state. -/
def State.putLine (s : State) (l : Line) : State := { s with line := l }

/-- Replace the bridge. -/
def State.putBridge (s : State) (b : Bridge) : State := { s with bridge := b }

/-- Replace the bus-domain state. -/
def State.putBus (s : State) (b : Bus) : State := { s with bus := b }

/-- Replace the state behind the registers. -/
def State.putRegs (s : State) (r : Regs) : State := { s with regs := r }

/-- Replace the ports. -/
def State.putPorts (s : State) (p : Ports) : State := { s with ports := p }

/-- Replace the receive path's wires. -/
def State.putRx (s : State) (r : RxPath) : State := { s with rx := r }

/-- Replace the local-bus memory. -/
def State.putMem (s : State) (m : List Host.Cell) : State := { s with mem := m }

/-- Replace the schedule. -/
def State.putAgenda (s : State) (a : List Action) : State := { s with agenda := a }

/-- `raise E(info)`: record the event (00_scope.md R12). -/
def State.raise (s : State) (e : Event) : State := { s with events := s.events ++ [e] }

/-- Record a signal to a local bus. -/
def State.signal (s : State) (b : BusSignal) : State := { s with busLog := s.busLog ++ [b] }

/-- Count one line tick (46_endpoint.md R260). -/
def State.countTick (s : State) : State := { s with tick := s.tick + 1 }

end Sys2Proof.Machine
end

