-- ==== Sys2Proof/Machine/Scrambler.lean ====
section
/-! DEFINITION. The scrambler and descrambler `1 + x^18 + x^23`, bit 0 first (43_scrambler.md). -/

namespace Sys2Proof.Machine

/-- Shift one bit into an LFSR: `S := ((S << 1) | b) & 0x7FFFFF` (R190, R191). -/
def lfsrShift (st : BitVec 23) (b : Bool) : BitVec 23 := st.extractLsb' 0 22 ++ (if b then 1#1 else 0#1)

/-- The feedback bit `S[17] ^ S[22]` (R190). -/
def lfsrTap (st : BitVec 23) : Bool := Bool.xor (st.getLsbD 17) (st.getLsbD 22)

/-- `Scramble` over a list of bits, the first sent first (R190). -/
def scrambleBits : BitVec 23 → List Bool → List Bool × BitVec 23
  | st, [] => ([], st)
  | st, d :: ds =>
    let out := Bool.xor d (lfsrTap st)
    let rest := scrambleBits (lfsrShift st out) ds
    (out :: rest.1, rest.2)

/-- `Descramble` over a list of bits: the received bit is shifted in, not the output (R191). -/
def descrambleBits : BitVec 23 → List Bool → List Bool × BitVec 23
  | st, [] => ([], st)
  | st, r :: rs =>
    let rest := descrambleBits (lfsrShift st r) rs
    (Bool.xor r (lfsrTap st) :: rest.1, rest.2)

/-- The bits of a word, bit 0 first (00_scope.md R11). -/
def wordBits (d : Word) : List Bool := (List.range 32).map d.getLsbD

/-- The number whose bits these are, bit 0 first. -/
def natOfBits : List Bool → Nat
  | [] => 0
  | b :: bs => b.toNat + 2 * natOfBits bs

/-- The word whose bits these are, bit 0 first. -/
def wordOfBits (bs : List Bool) : Word := BitVec.ofNat 32 (natOfBits bs)

/-- `Scramble(S, d)` (R190). -/
def scramble (st : BitVec 23) (d : Word) : Word × BitVec 23 :=
  let r := scrambleBits st (wordBits d)
  (wordOfBits r.1, r.2)

/-- `Descramble(S, s)` (R191). -/
def descramble (st : BitVec 23) (r : Word) : Word × BitVec 23 :=
  let d := descrambleBits st (wordBits r)
  (wordOfBits d.1, d.2)

end Sys2Proof.Machine
end

