-- ==== Sys2Proof/Machine/Aligner.lean ====
section
/-! DEFINITION. The BitAligner (41_bitaligner.md). -/

namespace Sys2Proof.Machine

/-- `Aligned(window, r)` (R141). -/
def alignedWord (window : BitVec 80) (r : Nat) : LineWord := window.extractLsb' r 40

/-- Some other rotation of the window shows a comma (R145). -/
def commaElsewhere (window : BitVec 80) (offset : Fin 40) : Bool :=
  (List.range 40).any fun r => r != offset.val && isComma (alignedWord window r)

/-- The aligner hunts: SEND_TRAINING or WAIT_ALIGN, unlocked (R143). -/
def hunting (st : LinkState) (l : Line) : Bool := (st == .sendTraining || st == .waitAlign) && !l.lock

/-- A hunting tick that sees a comma at the current rotation (R144). -/
def huntComma (cfg : Params) (l : Line) : Line :=
  { l with commaRun := BitVec.ofNat 16 (l.commaRun.toNat + 1), lock := decide (cfg.lockCount ≤ l.commaRun.toNat + 1) }

/-- A hunting tick that sees none: slip by one bit (R144). -/
def huntSlip (cfg : Params) (l : Line) : Line :=
  { l with commaRun := 0, alignOffset := l.alignOffset + 1,
           slipCount := BitVec.ofNat 32 (min (l.slipCount.toNat + 1) cfg.slipLimit) }

/-- The drift check of a locked tick; `comma` and `elsewhere` are the two sightings of R145. -/
def driftCheck (cfg : Params) (comma elsewhere : Bool) (l : Line) : Line :=
  if comma then { l with driftRun := 0 }
  else if elsewhere then
    if cfg.lockCount ≤ l.driftRun.toNat + 1 then { l with lock := false, commaRun := 0, driftRun := 0 }
    else { l with driftRun := BitVec.ofNat 16 (l.driftRun.toNat + 1) }
  else l

/-- The aligner step of a tick in state `st`: hunt, check drift, or do nothing (R143 to R147). -/
def alignStep (cfg : Params) (st : LinkState) (comma elsewhere : Bool) (l : Line) : Line :=
  if hunting st l then (if comma then huntComma cfg l else huntSlip cfg l)
  else if l.lock && st != .error then driftCheck cfg comma elsewhere l
  else l

/-- `bitslip_request`: this tick slips (R144). -/
def slips (st : LinkState) (comma : Bool) (l : Line) : Bool := hunting st l && !comma

/-- The aligner is exhausted (R146). -/
def exhausted (cfg : Params) (l : Line) : Bool := decide (cfg.slipLimit ≤ l.slipCount.toNat)

end Sys2Proof.Machine
end

