-- ==== Sys2Proof/Machine/Memory.lean ====
section
/-! DEFINITION. The memory on the completer's local bus: the environment of 46_endpoint.md R271 and R273, "a memory that
starts at zero". The block itself owns no memory (20_memory.md). -/

namespace Sys2Proof.Machine

/-- The value of a byte that is not listed (46_endpoint.md R271: the memory starts at zero). -/
def Memory.unlisted : Byte := 0#8

/-- The byte at an address. -/
def Memory.read : List Host.Cell → Nat → Byte
  | [], _ => Memory.unlisted
  | (c, v) :: rest, a => if a = c then v else Memory.read rest a

/-- Write one byte, keeping the canonical form. -/
def Memory.write : List Host.Cell → Nat → Byte → List Host.Cell
  | [], a, b => if b = Memory.unlisted then [] else [(a, b)]
  | (c, v) :: rest, a, b =>
    if a < c then (if b = Memory.unlisted then (c, v) :: rest else (a, b) :: (c, v) :: rest)
    else if a = c then (if b = Memory.unlisted then rest else (a, b) :: rest)
    else (c, v) :: Memory.write rest a b

/-- Every address is at least `lo`, the addresses strictly rise and no entry is the unlisted value. -/
def Memory.wfFrom : Nat → List Host.Cell → Bool
  | _, [] => true
  | lo, (a, v) :: rest => decide (lo ≤ a) && v != Memory.unlisted && Memory.wfFrom (a + 1) rest

/-- The canonical form of the memory. -/
def Memory.wf (m : List Host.Cell) : Bool := Memory.wfFrom 0 m

/-- Where byte i of the word at a bus address is kept: each address names a word of its own (DESIGN CHOICE, log entry 3;
the block gives addresses no meaning, 20_memory.md R60, R67). -/
def byteAddress (addr : Word) (i : Nat) : Nat := 4 * addr.toNat + i

/-- `ByteMask(be)` (30_encoding.md R89). -/
def byteMask (be : ByteEnable) : Word :=
  (if be.getLsbD 3 then 0xFF#8 else 0#8) ++ (if be.getLsbD 2 then 0xFF#8 else 0#8) ++
    (if be.getLsbD 1 then 0xFF#8 else 0#8) ++ (if be.getLsbD 0 then 0xFF#8 else 0#8)

/-- The word at a bus address: what the memory returns to `MemRead(addr, be)` (45_bustunnel.md R242, R247). -/
def memRead (m : List Host.Cell) (addr : Word) : Word :=
  Memory.read m (byteAddress addr 3) ++ Memory.read m (byteAddress addr 2) ++ Memory.read m (byteAddress addr 1) ++
    Memory.read m (byteAddress addr 0)

/-- Write byte i of a word where its byte-enable bit is 1 (20_memory.md R63). -/
def writeLane (addr : Word) (be : ByteEnable) (data : Word) (m : List Host.Cell) (i : Nat) : List Host.Cell :=
  if be.getLsbD i then Memory.write m (byteAddress addr i) (byteOf data i) else m

/-- `MemWrite(addr, be, data)` on the memory (20_memory.md R63, 45_bustunnel.md R247). -/
def memWrite (m : List Host.Cell) (addr : Word) (be : ByteEnable) (data : Word) : List Host.Cell :=
  [0, 1, 2, 3].foldl (writeLane addr be data) m

end Sys2Proof.Machine
end

