-- ==== Sys2Proof/Machine/Operands.lean ====
section
/-! DEFINITION. The fields and integrity code of a frame (30_encoding.md R84 to R90, 44_framer.md R206, R207, R217, R218). -/

namespace Sys2Proof.Machine

/-- One of the 8 shifts of `Crc32` (44_framer.md R206). -/
def crcShift (c : Word) : Word := if c.getLsbD 0 then (c >>> 1) ^^^ 0xEDB88320#32 else c >>> 1

/-- `Crc32` of one more byte (44_framer.md R206). -/
def crcByte (c : Word) (b : Byte) : Word :=
  crcShift (crcShift (crcShift (crcShift (crcShift (crcShift (crcShift (crcShift (c ^^^ b.zeroExtend 32))))))))

/-- The bytes of a list of words, byte 0 of each first (20_memory.md R65). -/
def wordBytes (ws : List Word) : List Byte := ws.flatMap fun w => [byteOf w 0, byteOf w 1, byteOf w 2, byteOf w 3]

/-- The CRC-32 of a list of bytes (44_framer.md R206). -/
def crcBytes (bs : List Byte) : Word := bs.foldl crcByte 0xFFFFFFFF#32 ^^^ 0xFFFFFFFF#32

/-- `Crc32(words)` (44_framer.md R206). -/
def crc32 (ws : List Word) : Word := crcBytes (wordBytes ws)

/-- The TYPE of each message (30_encoding.md R86). -/
def typeWrite : Byte := 0x01#8
/-- READ (30_encoding.md R86). -/
def typeRead : Byte := 0x02#8
/-- RESPONSE (30_encoding.md R86). -/
def typeResponse : Byte := 0x03#8

/-- `BuildFrame(type, be, addr, data)` (44_framer.md R207). -/
def buildFrame (mtype : Byte) (be : ByteEnable) (addr data : Word) : List TxEntry :=
  [.sof, .data (headerWord mtype be), .data addr, .data data, .data (crc32 [headerWord mtype be, addr, data])]

/-- The TYPE, BE and reserved fields of a received header (30_encoding.md R90). -/
def headerType (hdr : Word) : Byte := hdr.extractLsb' 0 8
/-- BE (30_encoding.md R90). -/
def headerBe (hdr : Word) : ByteEnable := hdr.extractLsb' 8 4

/-- `DecodeMsg(hdr, addr, data)` (44_framer.md R218). -/
def decodeMsg (hdr addr data : Word) : Message :=
  { mtype := headerType hdr, be := headerBe hdr, addr := addr, data := data }

/-- `FrameOk(hdr, addr, data, crc)` (44_framer.md R217). -/
def frameOk (hdr addr data crc : Word) : Bool := crc == crc32 [hdr, addr, data] && legalHeader hdr

end Sys2Proof.Machine
end

