-- ==== Sys2Proof/Machine/Ops.lean ====
section
/-! DEFINITION. The shared operations: the bridge queues, a transaction's completion, the fall-back of the LinkTrainer
(the block's only kind of exception, 60_exceptions.md R306) and the link reset that follows it (R307). -/

namespace Sys2Proof.Machine

/-! ### Bridge queues (46_endpoint.md R266) -/

/-- There is room in `txq`. -/
def txqRoom (s : State) : Bool := decide (s.bridge.txq.length < s.cfg.txqDepth)

/-- There is room in `rxq`. -/
def rxqRoom (s : State) : Bool := decide (s.bridge.rxq.length < s.cfg.rxqDepth)

/-- `Enqueue(txq, e)`. -/
def enqueueTx (e : TxEntry) (s : State) : State := s.putBridge { s.bridge with txq := s.bridge.txq ++ [e] }

/-- `Dequeue(txq)` without its value. -/
def dequeueTx (s : State) : State := s.putBridge { s.bridge with txq := s.bridge.txq.tail }

/-- `Enqueue(rxq, e)`. -/
def enqueueRx (e : RxEntry) (s : State) : State := s.putBridge { s.bridge with rxq := s.bridge.rxq ++ [e] }

/-- `Dequeue(rxq)` without its value. -/
def dequeueRx (s : State) : State := s.putBridge { s.bridge with rxq := s.bridge.rxq.tail }

/-! ### The requester's local bus -/

/-- `Complete(txn, value)` (45_bustunnel.md R240): the bus is told, and may present its next transaction. -/
def completeTxn (txn : BusTxn) (value : Word) (s : State) : State :=
  (s.signal (.complete txn value)).putPorts { s.ports with txnIn := none }

/-- `Complete(cur_txn, value)`, where a transaction is accepted (45_bustunnel.md R240). -/
def completeCurrent (value : Word) (s : State) : State :=
  match s.bus.curTxn with
  | some txn => completeTxn txn value s
  | none => s

/-- `Complete(cur_txn, value); cur_txn <- none; req_state <- IDLE` (45_bustunnel.md R237, R239). -/
def finishRequest (value : Word) (s : State) : State :=
  (completeCurrent value s).putBus { s.bus with reqState := .idle, curTxn := none }

/-- `pending_read <- none` (45_bustunnel.md R239, R244). -/
def clearPending (s : State) : State := s.putBus { s.bus with pendingRead := none }

/-! ### Fall-back: what the spec has in place of taking an exception (60_exceptions.md R306) -/

/-- The cause code of a fall-back (60_exceptions.md R301). -/
def FallBack.code : FallBack → BitVec 4
  | .errThreshold => 1
  | .alignmentLoss => 2
  | .trainingTimeout => 3
  | .alignExhausted => 4
  | .confirmFail => 5
  | .hostReset => 6
  | .phyDown => 7

/-- The state a fall-back leads to (60_exceptions.md R301). -/
def FallBack.target : FallBack → LinkState
  | .trainingTimeout => .error
  | .alignExhausted => .error
  | _ => .reset

/-- Fall back: raise the event and write its cause (42_linktrainer.md R170). The next state is `f.target`. -/
def fallBack (f : FallBack) (s : State) : State :=
  (s.raise (.fallBack f)).putRegs { s.regs with cause := f.code }

/-! ### Link reset: the RESET tick (42_linktrainer.md R163, 70_reset_and_hazards.md R331) -/

/-- The requester's part of `TunnelLinkReset` (45_bustunnel.md R244). -/
def requesterLinkReset (s : State) : State :=
  match s.bus.reqState with
  | .idle => s.putBus { s.bus with curTxn := none, pendingRead := none }
  | .writing => clearPending (finishRequest 0 s)
  | .reading => clearPending (finishRequest s.cfg.linkDownReadValue s)

/-- The completer's part of `TunnelLinkReset` on `comp_op` (45_bustunnel.md R244; 10_state.md R48). -/
def CompOp.linkReset : CompOp → CompOp
  | .idle => .idle
  | .busWrite addr data be => .busWrite addr data be
  | .busRead addr be _ => .busRead addr be true
  | .respond => .idle

/-- `TunnelLinkReset` (45_bustunnel.md R244). -/
def tunnelLinkReset (s : State) : State :=
  match s.cfg.role with
  | .master => requesterLinkReset s
  | .slave => s.putBus { s.bus with compOp := s.bus.compOp.linkReset }

/-- Every link-scope element at its reset value, but `rx_prev`, which holds the tick's raw word, and `comp_op`
(R163 step 2; 10_state.md R35, R48). -/
def resetLinkScope (s : State) : State :=
  ((s.putLine { Line.reset s.cfg with rxPrev := s.line.rxPrev }).putBridge Bridge.reset).putBus
    { Bus.reset with compOp := s.bus.compOp }

/-- Send IDLE from RD NEG and drive the status outputs of a RESET tick (R163 steps 2 to 4). -/
def driveReset (s : State) : State :=
  let word := encodeWord .idle .neg
  (s.putLine { s.line with encRd := word.2 }).putPorts
    { s.ports with tx := word.1, commaDetected := false, bitslipRequest := false, delayCalibrate := true }

/-- The next state of a RESET tick (R163 step 5). -/
def leaveReset (s : State) : State :=
  if s.regs.linkResetReq then s.putRegs { s.regs with linkResetReq := false }
  else if s.regs.phyReadyLast then s.putLine { s.line with linkState := .sendTraining }
  else s

/-- The RESET tick, after the inputs are sampled (42_linktrainer.md R163). -/
def resetTick (s : State) : State := leaveReset (driveReset (resetLinkScope (tunnelLinkReset s)))

/-- The power-up reset (70_reset_and_hazards.md R330): every state element at its reset value; the environment's memory,
its inputs, the schedule and the record of past events are not the block's and stay. -/
def powerUpReset (s : State) : State :=
  { State.resetOf s.cfg with
    ports := { Ports.reset with rawIn := s.ports.rawIn, phyReadyIn := s.ports.phyReadyIn, rxIdleIn := s.ports.rxIdleIn }
    mem := s.mem, agenda := s.agenda, events := s.events, busLog := s.busLog }

end Sys2Proof.Machine
end

