-- ==== Sys2Proof/Machine/Trainer.lean ====
section
/-! DEFINITION. The LinkTrainer (42_linktrainer.md): the rules of each state, after the aligner's step of the tick. Each
gives the next state beside the machine state it writes (R162: the new `link_state` takes effect at the end of the tick). -/

namespace Sys2Proof.Machine

/-- A trainer rule's result: the next link state, and the state with the rule's other writes. -/
abbrev Trained := LinkState × State

/-- Leave for RESET or ERROR with a cause (R164 to R170). -/
def fallTo (f : FallBack) (s : State) : Trained := (f.target, fallBack f s)

/-- Enter a state that counts ticks from 0 (R161). -/
def enter (next : LinkState) (s : State) : Trained := (next, s.putLine { s.line with timer := 0 })

/-- Stay one more tick in a timed state (R161). -/
def stay (st : LinkState) (s : State) : Trained := (st, s.putLine { s.line with timer := s.line.timer + 1 })

/-- A state's limit L is reached in the tick where `timer + 1 >= L` (R161). -/
def limitReached (limit : Nat) (l : Line) : Bool := decide (limit ≤ l.timer.toNat + 1)

/-- SEND_TRAINING (R164). -/
def trainSendTraining (s : State) : Trained :=
  if exhausted s.cfg s.line then fallTo .alignExhausted s
  else if limitReached s.cfg.txDwell s.line then enter .waitAlign s
  else stay .sendTraining s

/-- WAIT_ALIGN (R165). -/
def trainWaitAlign (s : State) : Trained :=
  if s.line.lock then enter .aligned s
  else if exhausted s.cfg s.line then fallTo .alignExhausted s
  else if limitReached s.cfg.alignTimeout s.line then fallTo .trainingTimeout s
  else stay .waitAlign s

/-- ALIGNED (R166). -/
def trainAligned (cls : WordClass) (s : State) : Trained :=
  if !s.line.lock then fallTo .alignmentLoss s
  else if cls = .err then fallTo .confirmFail s
  else if limitReached s.cfg.confirmWindow s.line then
    (.ready, s.putLine { s.line with timer := 0, errCount := 0 })
  else stay .aligned s

/-- The new value of `err_count`: up by one for an ERR word, down to 0 by one for any other (R167). -/
def nextErrCount (cls : WordClass) (l : Line) : Nat :=
  if cls = .err then l.errCount.toNat + 1 else l.errCount.toNat - 1

/-- READY (R167). -/
def trainReady (cls : WordClass) (s : State) : Trained :=
  if !s.line.lock then fallTo .alignmentLoss s
  else
    let counted := s.putLine { s.line with errCount := BitVec.ofNat 16 (nextErrCount cls s.line) }
    if s.cfg.errThreshold ≤ nextErrCount cls s.line then fallTo .errThreshold counted else (.ready, counted)

/-- A host link reset is taken (R169). -/
def takeHostReset (s : State) : Trained :=
  let fallen := fallBack .hostReset s
  (.reset, fallen.putRegs { fallen.regs with linkResetReq := false })

/-- The trainer's step in state `st`: the two overrides, then the state's own rule (R169, R171). The RESET row is the
RESET tick's own (R163) and is not reached here. -/
def trainStep (st : LinkState) (cls : WordClass) (s : State) : Trained :=
  if s.regs.linkResetReq then takeHostReset s
  else if !s.regs.phyReadyLast && st != .error then fallTo .phyDown s
  else match st with
    | .reset => (.reset, s)
    | .sendTraining => trainSendTraining s
    | .waitAlign => trainWaitAlign s
    | .aligned => trainAligned cls s
    | .ready => trainReady cls s
    | .error => (.error, s)

end Sys2Proof.Machine
end

