-- ==== Sys2Proof/Machine/LineTick.lean ====
section
/-! DEFINITION. The line tick (46_endpoint.md R261 to R265). A tick samples its inputs and forms the receive window; the
aligned word is then the tick's instruction, and `receiveWord` is what every line word does. -/

namespace Sys2Proof.Machine

/-- Steps 0 and 2: sample the status inputs, form the window and load `rx_prev` (R261; 41_bitaligner.md R140). -/
def sampleInputs (raw : LineWord) (phyReady rxIdle : Bool) (s : State) : State :=
  ((((s.putPorts { s.ports with rawIn := raw, phyReadyIn := phyReady, rxIdleIn := rxIdle }).putRegs
    { s.regs with rxIdleLast := rxIdle, phyReadyLast := phyReady }).putRx
    { s.rx with window := raw ++ s.line.rxPrev }).putLine { s.line with rxPrev := raw }).countTick

/-- The aligned word of the tick whose inputs are sampled (41_bitaligner.md R141). -/
def fetchedWord (s : State) : LineWord := alignedWord s.rx.window s.line.alignOffset.val

/-- Step 3: the aligner (41_bitaligner.md R143 to R147). -/
def alignTick (st : LinkState) (comma : Bool) (s : State) : State :=
  s.putLine (alignStep s.cfg st comma (commaElsewhere s.rx.window s.line.alignOffset) s.line)

/-- Receive one code group: `Decode` under `dec_rd`, the next lane of the word (40_linecodec.md R119, R122). A fifth lane
begins a new word. -/
def receiveGroup (g : Group) (s : State) : State :=
  let lane := decodeLane g s.line.decRd
  let before := if 4 ≤ s.rx.lanes.length then [] else s.rx.lanes
  (s.putLine { s.line with decRd := lane.2 }).putRx { s.rx with lanes := before ++ [lane.1] }

/-- Step 4: `DecodeWord`, lane 0 first (40_linecodec.md R122). -/
def receiveLanes (w : LineWord) (s : State) : State :=
  (splitLanes w).foldl (fun t g => receiveGroup g t) (s.putRx { s.rx with lanes := [] })

/-- Step 6: a code violation is counted in ALIGNED and READY (R261; 60_exceptions.md R300, R304). -/
def countViolation (st : LinkState) (cls : WordClass) (s : State) : State :=
  if (st = .aligned ∨ st = .ready) ∧ cls = .err then
    (s.raise .codeViolation).putRegs { s.regs with decodeErrorCount := s.regs.decodeErrorCount + 1 }
  else s

/-- `deliver(e)`: into `rxq`, or lost with RX_OVERFLOW set (R264, R265). -/
def deliver (e : RxEntry) (s : State) : State :=
  if rxqRoom s then enqueueRx e s else (s.raise .rxOverflow).putRegs { s.regs with rxOverflow := true }

/-- Step 7: receive delivery in READY (R264; 43_scrambler.md R195). -/
def receiveDelivery (cls : WordClass) (s : State) : State :=
  match cls with
  | .idle => s
  | .sof => deliver .sof (s.putLine { s.line with dscrState := s.cfg.scrSeed })
  | .err => deliver .err s
  | .data r =>
    if s.regs.scrBypass then deliver (.data r) s
    else
      let plain := descramble s.line.dscrState r
      deliver (.data plain.1) (s.putLine { s.line with dscrState := plain.2 })

/-- Encode and drive one line word (R263; 40_linecodec.md R120). -/
def sendWord (word : TxWord) (s : State) : State :=
  let sent := encodeWord word s.line.encRd
  (s.putLine { s.line with encRd := sent.2, txLastIdle := word == .idle }).putPorts { s.ports with tx := sent.1 }

/-- Send one queue entry (R263; 43_scrambler.md R193). -/
def sendEntry (e : TxEntry) (s : State) : State :=
  match e with
  | .sof => sendWord .sof (s.putLine { s.line with scrState := s.cfg.scrSeed })
  | .data d =>
    if s.regs.scrBypass then sendWord (.data d) s
    else
      let whitened := scramble s.line.scrState d
      sendWord (.data whitened.1) (s.putLine { s.line with scrState := whitened.2 })

/-- The entry the transmit path may send in this tick: a SOF only right after an IDLE word (R263; 10_state.md R29). -/
def sendable (s : State) : Option TxEntry :=
  match s.bridge.txq with
  | [] => none
  | .sof :: _ => if s.line.txLastIdle then some .sof else none
  | .data d :: _ => some (.data d)

/-- Step 8: transmit selection (R263). -/
def transmit (st : LinkState) (s : State) : State :=
  if st = .ready then
    match sendable s with
    | some e => sendEntry e (dequeueTx s)
    | none => sendWord .idle s
  else sendWord .idle s

/-- Step 9 and the status outputs (R261, R262). -/
def finishTick (next : LinkState) (comma slip : Bool) (s : State) : State :=
  (s.putLine { s.line with linkState := next }).putPorts
    { s.ports with commaDetected := comma, bitslipRequest := slip, delayCalibrate := false }

/-- Steps 3 to 9 for the aligned word `w`, `st` being the link state at the start of the tick (R261). -/
def receiveIn (st : LinkState) (w : LineWord) (s : State) : State :=
  let received := receiveLanes w (alignTick st (isComma w) s)
  let cls := classify received.rx.lanes
  let trained := trainStep st cls (countViolation st cls received)
  let delivered := if st = .ready then receiveDelivery cls trained.2 else trained.2
  finishTick trained.1 (isComma w) (slips st (isComma w) s.line) (transmit st delivered)

/-- What a line word does in the tick that receives it. In RESET no word is decoded (42_linktrainer.md R163). -/
def receiveWord (w : LineWord) (s : State) : State :=
  if s.line.linkState = .reset then resetTick s else receiveIn s.line.linkState w s

end Sys2Proof.Machine
end

