-- ==== Sys2Proof/Machine/LineWords.lean ====
section
/-! DEFINITION. The meanings of the line-word rows: the tick that receives the word (40_linecodec.md R123,
46_endpoint.md R261). -/

namespace Sys2Proof.Machine

/-- The outcome of an operation that always has a next state. -/
abbrev Result := Host.Outcome State Fault Refusal

/-- IDLE from RD NEG: the line word 0xD1B46D197C (30_encoding.md R82). -/
def execIdleNeg (s : State) : Result := .next (receiveWord 0xD1B46D197C#40 s)

/-- IDLE from RD POS: the line word 0x2E4B92E683 (30_encoding.md R82). -/
def execIdlePos (s : State) : Result := .next (receiveWord 0x2E4B92E683#40 s)

/-- SOF from RD NEG: the line word 0x2E4B92E45B (30_encoding.md R82). -/
def execSofNeg (s : State) : Result := .next (receiveWord 0x2E4B92E45B#40 s)

/-- SOF from RD POS: the line word 0xD1B46D1BA4 (30_encoding.md R82). -/
def execSofPos (s : State) : Result := .next (receiveWord 0xD1B46D1BA4#40 s)

/-- DATA: the word `EncodeWord(DATA, d, rd)` (30_encoding.md R83). -/
def execLineData (rd : RD) (d : Word) (s : State) : Result := .next (receiveWord (encodeWord (.data d) rd).1 s)

/-- ERR: any other word, ERR at worst (30_encoding.md R93; 60_exceptions.md R316). -/
def execLineErr (_ : RD) (w : LineWord) (s : State) : Result := .next (receiveWord w s)

end Sys2Proof.Machine
end

