-- ==== Sys2Proof/Machine/Framer.lean ====
section
/-! DEFINITION. The Packetizer and the Depacketizer (44_framer.md). -/

namespace Sys2Proof.Machine

/-! ### Packetizer -/

/-- `PacketizerStep` is enabled (R209). -/
def packetizerEnabled (s : State) : Bool := !s.bus.pktWords.isEmpty && txqRoom s

/-- What the step that empties `pkt_words` also does: a requester WRITE completes (R209; 45_bustunnel.md R237), and a
RESPONSE has been handed over (45_bustunnel.md R242). -/
def frameQueued (s : State) : State :=
  let acked := if s.bus.pktAck then finishRequest 0 (s.putBus { s.bus with pktAck := false }) else s
  if acked.bus.compOp = .respond then acked.putBus { acked.bus with compOp := .idle } else acked

/-- `PacketizerStep` (R209); nothing happens where it is not enabled. -/
def packetizerStep (s : State) : State :=
  if txqRoom s then
    match s.bus.pktWords with
    | [] => s
    | e :: rest =>
      let queued := (enqueueTx e s).putBus { s.bus with pktWords := rest }
      if rest.isEmpty then frameQueued queued else queued
  else s

/-! ### Depacketizer -/

/-- `DepacketizerStep` is enabled (R213, R214). -/
def depacketizerEnabled (s : State) : Bool := s.bus.held.isNone && !s.bridge.rxq.isEmpty

/-- A frame is discarded: counted, and `FrameIntegrity` raised (R213, R215 to R217). -/
def dropFrame (s : State) : State :=
  (s.raise .frameIntegrity).putRegs { s.regs with frameDropCount := s.regs.frameDropCount + 1 }

/-- The Depacketizer in a state of its own (R212). -/
def setFrame (st : DepState) (buf : List Word) (s : State) : State :=
  s.putBus { s.bus with depState := st, depBuf := buf }

/-- A whole frame that is discarded: back to HUNT (R213, R217). -/
def discardFrame (s : State) : State := dropFrame (setFrame .hunt [] s)

/-- The CRC word `w` has come: deliver the frame's message or discard it (R213, R217, R218). -/
def endFrame (hdr addr data w : Word) (s : State) : State :=
  if frameOk hdr addr data w then
    s.putBus { s.bus with depState := .hunt, depBuf := [], held := some (decodeMsg hdr addr data) }
  else discardFrame s

/-- A data word inside a frame (R213). -/
def collectWord (w : Word) (s : State) : State :=
  match s.bus.depBuf with
  | [hdr, addr, data] => endFrame hdr addr data w s
  | buf => setFrame .collect (buf ++ [w]) s

/-- What the Depacketizer does with an entry taken from `rxq` (R213). -/
def takeEntry (e : RxEntry) (s : State) : State :=
  match s.bus.depState, e with
  | .hunt, .sof => setFrame .collect [] s
  | .hunt, .data _ => s
  | .hunt, .err => s
  | .collect, .sof => dropFrame (setFrame .collect [] s)
  | .collect, .err => discardFrame s
  | .collect, .data w => collectWord w s

/-- `DepacketizerStep` (R213, R214); nothing happens where it is not enabled. -/
def depacketizerStep (s : State) : State :=
  match s.bus.held, s.bridge.rxq with
  | none, e :: _ => takeEntry e (dequeueRx s)
  | _, _ => s

/-- The frame whose CRC word is the next entry, where its CRC is right and its header malformed: the row
MALFORMED_HEADER (30_encoding.md R94). -/
def malformedNext (s : State) : Option (Word × Word × Word) :=
  match s.bus.held, s.bus.depState, s.bus.depBuf, s.bridge.rxq with
  | none, .collect, [hdr, addr, data], .data w :: _ =>
    if w = crc32 [hdr, addr, data] ∧ legalHeader hdr = false then some (hdr, addr, data) else none
  | _, _, _, _ => none

end Sys2Proof.Machine
end

