-- ==== Sys2Proof/Machine/Tunnel.lean ====
section
/-! DEFINITION. The BusTunnel (45_bustunnel.md): the requester of a master, the completer of a slave. -/

namespace Sys2Proof.Machine

/-! ### Requester -/

/-- The conditions of R236 on the block, for any presented transaction. -/
def requesterFree (s : State) : Bool :=
  s.cfg.role == .master && s.bus.reqState == .idle && s.bus.pktWords.isEmpty && s.line.linkState == .ready

/-- The local bus presents a transaction, at most one at a time (R236): one named while another is still there is not
presented at all (DESIGN CHOICE, log entry 16). -/
def presentTxn (txn : BusTxn) (s : State) : State :=
  match s.ports.txnIn with
  | none => s.putPorts { s.ports with txnIn := some txn }
  | some _ => s

/-- `RequesterAcceptWrite` (R237). -/
def acceptWrite (txn : BusTxn) (s : State) : State :=
  s.putBus { s.bus with
    curTxn := some txn, reqState := .writing, pktWords := buildFrame typeWrite txn.be txn.addr txn.data, pktAck := true }

/-- `RequesterAcceptRead` (R238). -/
def acceptRead (txn : BusTxn) (s : State) : State :=
  s.putBus { s.bus with
    curTxn := some txn, reqState := .reading, pendingRead := some txn.addr,
    pktWords := buildFrame typeRead txn.be txn.addr 0, pktAck := false }

/-- The bus presents `txn`; it is accepted with `accept` where R236 holds, and waits on the bus where it does not. -/
def offerTxn (accept : BusTxn → State → State) (txn : BusTxn) (s : State) : State :=
  let offered := presentTxn txn s
  if requesterFree offered && offered.ports.txnIn == some txn then accept txn offered else offered

/-- The transaction a step of the requester would accept (R236). -/
def acceptable (s : State) : Option BusTxn := if requesterFree s then s.ports.txnIn else none

/-- A message is discarded (R239, R241). -/
def unmatched (m : Message) (s : State) : State := s.raise (.unmatched m)

/-- `held <- none`. -/
def clearHeld (s : State) : State := s.putBus { s.bus with held := none }

/-- The message answers the pending read (R239). -/
def answersPending (m : Message) (s : State) : Bool :=
  m.mtype == typeResponse && s.bus.reqState == .reading && s.bus.pendingRead == some m.addr

/-- `RequesterReceive` of a message (R239). -/
def requesterReceive (m : Message) (s : State) : State :=
  if answersPending m s then clearPending (finishRequest m.data (clearHeld s)) else unmatched m (clearHeld s)

/-! ### Completer -/

/-- The completer can take the next message (R241, R243). -/
def completerFree (s : State) : Bool := s.bus.compOp == .idle && s.bus.pktWords.isEmpty

/-- Start a local-bus cycle and say so to the bus (R241). -/
def issueCycle (op : CompOp) (cycle : BusSignal) (s : State) : State :=
  (s.putBus { s.bus with compOp := op }).signal cycle

/-- `CompleterReceive` of a message (R241). A TYPE that is none of the three is never delivered (44_framer.md R217). -/
def completerReceive (m : Message) (s : State) : State :=
  if m.mtype = typeWrite then issueCycle (.busWrite m.addr m.data m.be) (.memWrite m.addr m.be m.data) (clearHeld s)
  else if m.mtype = typeRead then issueCycle (.busRead m.addr m.be false) (.memRead m.addr m.be) (clearHeld s)
  else unmatched m (clearHeld s)

/-- A message is in `held` (44_framer.md R218). -/
def holdMsg (m : Message) (s : State) : State := s.putBus { s.bus with held := some m }

/-- The tunnel is offered the message in `held`: taken by role (R239, R241), or kept there while the completer is busy
(R243). -/
def tunnelReceive (m : Message) (s : State) : State :=
  match s.cfg.role with
  | .master => requesterReceive m (holdMsg m s)
  | .slave => if completerFree s then completerReceive m (holdMsg m s) else holdMsg m s

/-- The message a step of the tunnel would take (R239, R241). -/
def takeable (s : State) : Option Message :=
  match s.cfg.role with
  | .master => s.bus.held
  | .slave => if completerFree s then s.bus.held else none

/-- A local-bus cycle is outstanding, so the environment can complete it (R242). -/
def cycleOutstanding (s : State) : Bool :=
  match s.bus.compOp with
  | .busWrite _ _ _ => true
  | .busRead _ _ _ => true
  | _ => false

/-- The completer is given the value of its read (R242). -/
def finishRead (addr : Word) (be : ByteEnable) (stale : Bool) (value : Word) (s : State) : State :=
  if stale = false ∧ s.line.linkState = .ready then
    s.putBus { s.bus with pktWords := buildFrame typeResponse be addr value, pktAck := false, compOp := .respond }
  else s.putBus { s.bus with compOp := .idle }

/-- `CompleterBusDone(v)` (R242). The local bus performs a write as it completes it (log entry 3), and returns the drawn
value to a read, or the memory's where none is drawn (46_endpoint.md R271, R273). -/
def completerBusDone (drawn : Option Word) (s : State) : State :=
  match s.bus.compOp with
  | .busWrite addr data be => (s.putMem (memWrite s.mem addr be data)).putBus { s.bus with compOp := .idle }
  | .busRead addr be stale => finishRead addr be stale (drawn.getD (memRead s.mem addr)) s
  | .idle => s
  | .respond => s

end Sys2Proof.Machine
end

