-- ==== Sys2Proof/Machine/BusTxns.lean ====
section
/-! DEFINITION. The meanings of the local-bus transactions at the requester (45_bustunnel.md R236 to R238). -/

namespace Sys2Proof.Machine

/-- WR (R237). -/
def execTxnWr (addr data : Word) (be : ByteEnable) (s : State) : Result :=
  .next (offerTxn acceptWrite { we := true, addr := addr, data := data, be := be } s)

/-- RD (R238). Its data word is ignored, and sent as 0. -/
def execTxnRd (addr data : Word) (be : ByteEnable) (s : State) : Result :=
  .next (offerTxn acceptRead { we := false, addr := addr, data := data, be := be } s)

end Sys2Proof.Machine
end

