-- ==== Sys2Proof/Machine/CodeGroups.lean ====
section
/-! DEFINITION. The meanings of the code-group rows: `Decode` of the row's group in the next lane of the word being
received (40_linecodec.md R119, R122). The row of the other running disparity decodes as Invalid (R92). The groups are
those of 40_linecodec.md R129 and of 30_encoding.md R91, in the table's order. -/

namespace Sys2Proof.Machine

/-- D0.0- -/
def execD0_0neg (s : State) : Result := .next (receiveGroup 0x0B9#10 s)
/-- D0.0+ -/
def execD0_0pos (s : State) : Result := .next (receiveGroup 0x346#10 s)
/-- D1.0- -/
def execD1_0neg (s : State) : Result := .next (receiveGroup 0x0AE#10 s)
/-- D1.0+ -/
def execD1_0pos (s : State) : Result := .next (receiveGroup 0x351#10 s)
/-- D2.0- -/
def execD2_0neg (s : State) : Result := .next (receiveGroup 0x0AD#10 s)
/-- D2.0+ -/
def execD2_0pos (s : State) : Result := .next (receiveGroup 0x352#10 s)
/-- D3.0- -/
def execD3_0neg (s : State) : Result := .next (receiveGroup 0x363#10 s)
/-- D3.0+ -/
def execD3_0pos (s : State) : Result := .next (receiveGroup 0x0A3#10 s)
/-- D4.0- -/
def execD4_0neg (s : State) : Result := .next (receiveGroup 0x0AB#10 s)
/-- D4.0+ -/
def execD4_0pos (s : State) : Result := .next (receiveGroup 0x354#10 s)
/-- D5.0- -/
def execD5_0neg (s : State) : Result := .next (receiveGroup 0x365#10 s)
/-- D5.0+ -/
def execD5_0pos (s : State) : Result := .next (receiveGroup 0x0A5#10 s)
/-- D6.0- -/
def execD6_0neg (s : State) : Result := .next (receiveGroup 0x366#10 s)
/-- D6.0+ -/
def execD6_0pos (s : State) : Result := .next (receiveGroup 0x0A6#10 s)
/-- D7.0- -/
def execD7_0neg (s : State) : Result := .next (receiveGroup 0x347#10 s)
/-- D7.0+ -/
def execD7_0pos (s : State) : Result := .next (receiveGroup 0x0B8#10 s)
/-- D8.0- -/
def execD8_0neg (s : State) : Result := .next (receiveGroup 0x0A7#10 s)
/-- D8.0+ -/
def execD8_0pos (s : State) : Result := .next (receiveGroup 0x358#10 s)
/-- D9.0- -/
def execD9_0neg (s : State) : Result := .next (receiveGroup 0x369#10 s)
/-- D9.0+ -/
def execD9_0pos (s : State) : Result := .next (receiveGroup 0x0A9#10 s)
/-- D10.0- -/
def execD10_0neg (s : State) : Result := .next (receiveGroup 0x36A#10 s)
/-- D10.0+ -/
def execD10_0pos (s : State) : Result := .next (receiveGroup 0x0AA#10 s)
/-- D11.0- -/
def execD11_0neg (s : State) : Result := .next (receiveGroup 0x34B#10 s)
/-- D11.0+ -/
def execD11_0pos (s : State) : Result := .next (receiveGroup 0x08B#10 s)
/-- D12.0- -/
def execD12_0neg (s : State) : Result := .next (receiveGroup 0x36C#10 s)
/-- D12.0+ -/
def execD12_0pos (s : State) : Result := .next (receiveGroup 0x0AC#10 s)
/-- D13.0- -/
def execD13_0neg (s : State) : Result := .next (receiveGroup 0x34D#10 s)
/-- D13.0+ -/
def execD13_0pos (s : State) : Result := .next (receiveGroup 0x08D#10 s)
/-- D14.0- -/
def execD14_0neg (s : State) : Result := .next (receiveGroup 0x34E#10 s)
/-- D14.0+ -/
def execD14_0pos (s : State) : Result := .next (receiveGroup 0x08E#10 s)
/-- D15.0- -/
def execD15_0neg (s : State) : Result := .next (receiveGroup 0x0BA#10 s)
/-- D15.0+ -/
def execD15_0pos (s : State) : Result := .next (receiveGroup 0x345#10 s)
/-- D16.0- -/
def execD16_0neg (s : State) : Result := .next (receiveGroup 0x0B6#10 s)
/-- D16.0+ -/
def execD16_0pos (s : State) : Result := .next (receiveGroup 0x349#10 s)
/-- D17.0- -/
def execD17_0neg (s : State) : Result := .next (receiveGroup 0x371#10 s)
/-- D17.0+ -/
def execD17_0pos (s : State) : Result := .next (receiveGroup 0x0B1#10 s)
/-- D18.0- -/
def execD18_0neg (s : State) : Result := .next (receiveGroup 0x372#10 s)
/-- D18.0+ -/
def execD18_0pos (s : State) : Result := .next (receiveGroup 0x0B2#10 s)
/-- D19.0- -/
def execD19_0neg (s : State) : Result := .next (receiveGroup 0x353#10 s)
/-- D19.0+ -/
def execD19_0pos (s : State) : Result := .next (receiveGroup 0x093#10 s)
/-- D20.0- -/
def execD20_0neg (s : State) : Result := .next (receiveGroup 0x374#10 s)
/-- D20.0+ -/
def execD20_0pos (s : State) : Result := .next (receiveGroup 0x0B4#10 s)
/-- D21.0- -/
def execD21_0neg (s : State) : Result := .next (receiveGroup 0x355#10 s)
/-- D21.0+ -/
def execD21_0pos (s : State) : Result := .next (receiveGroup 0x095#10 s)
/-- D22.0- -/
def execD22_0neg (s : State) : Result := .next (receiveGroup 0x356#10 s)
/-- D22.0+ -/
def execD22_0pos (s : State) : Result := .next (receiveGroup 0x096#10 s)
/-- D23.0- -/
def execD23_0neg (s : State) : Result := .next (receiveGroup 0x097#10 s)
/-- D23.0+ -/
def execD23_0pos (s : State) : Result := .next (receiveGroup 0x368#10 s)
/-- D24.0- -/
def execD24_0neg (s : State) : Result := .next (receiveGroup 0x0B3#10 s)
/-- D24.0+ -/
def execD24_0pos (s : State) : Result := .next (receiveGroup 0x34C#10 s)
/-- D25.0- -/
def execD25_0neg (s : State) : Result := .next (receiveGroup 0x359#10 s)
/-- D25.0+ -/
def execD25_0pos (s : State) : Result := .next (receiveGroup 0x099#10 s)
/-- D26.0- -/
def execD26_0neg (s : State) : Result := .next (receiveGroup 0x35A#10 s)
/-- D26.0+ -/
def execD26_0pos (s : State) : Result := .next (receiveGroup 0x09A#10 s)
/-- D27.0- -/
def execD27_0neg (s : State) : Result := .next (receiveGroup 0x09B#10 s)
/-- D27.0+ -/
def execD27_0pos (s : State) : Result := .next (receiveGroup 0x364#10 s)
/-- D28.0- -/
def execD28_0neg (s : State) : Result := .next (receiveGroup 0x35C#10 s)
/-- D28.0+ -/
def execD28_0pos (s : State) : Result := .next (receiveGroup 0x09C#10 s)
/-- D29.0- -/
def execD29_0neg (s : State) : Result := .next (receiveGroup 0x09D#10 s)
/-- D29.0+ -/
def execD29_0pos (s : State) : Result := .next (receiveGroup 0x362#10 s)
/-- D30.0- -/
def execD30_0neg (s : State) : Result := .next (receiveGroup 0x09E#10 s)
/-- D30.0+ -/
def execD30_0pos (s : State) : Result := .next (receiveGroup 0x361#10 s)
/-- D31.0- -/
def execD31_0neg (s : State) : Result := .next (receiveGroup 0x0B5#10 s)
/-- D31.0+ -/
def execD31_0pos (s : State) : Result := .next (receiveGroup 0x34A#10 s)
/-- D0.1- -/
def execD0_1neg (s : State) : Result := .next (receiveGroup 0x279#10 s)
/-- D0.1+ -/
def execD0_1pos (s : State) : Result := .next (receiveGroup 0x246#10 s)
/-- D1.1- -/
def execD1_1neg (s : State) : Result := .next (receiveGroup 0x26E#10 s)
/-- D1.1+ -/
def execD1_1pos (s : State) : Result := .next (receiveGroup 0x251#10 s)
/-- D2.1- -/
def execD2_1neg (s : State) : Result := .next (receiveGroup 0x26D#10 s)
/-- D2.1+ -/
def execD2_1pos (s : State) : Result := .next (receiveGroup 0x252#10 s)
/-- D3.1- -/
def execD3_1neg (s : State) : Result := .next (receiveGroup 0x263#10 s)
/-- D3.1+ -/
def execD3_1pos (s : State) : Result := .next (receiveGroup 0x263#10 s)
/-- D4.1- -/
def execD4_1neg (s : State) : Result := .next (receiveGroup 0x26B#10 s)
/-- D4.1+ -/
def execD4_1pos (s : State) : Result := .next (receiveGroup 0x254#10 s)
/-- D5.1- -/
def execD5_1neg (s : State) : Result := .next (receiveGroup 0x265#10 s)
/-- D5.1+ -/
def execD5_1pos (s : State) : Result := .next (receiveGroup 0x265#10 s)
/-- D6.1- -/
def execD6_1neg (s : State) : Result := .next (receiveGroup 0x266#10 s)
/-- D6.1+ -/
def execD6_1pos (s : State) : Result := .next (receiveGroup 0x266#10 s)
/-- D7.1- -/
def execD7_1neg (s : State) : Result := .next (receiveGroup 0x247#10 s)
/-- D7.1+ -/
def execD7_1pos (s : State) : Result := .next (receiveGroup 0x278#10 s)
/-- D8.1- -/
def execD8_1neg (s : State) : Result := .next (receiveGroup 0x267#10 s)
/-- D8.1+ -/
def execD8_1pos (s : State) : Result := .next (receiveGroup 0x258#10 s)
/-- D9.1- -/
def execD9_1neg (s : State) : Result := .next (receiveGroup 0x269#10 s)
/-- D9.1+ -/
def execD9_1pos (s : State) : Result := .next (receiveGroup 0x269#10 s)
/-- D10.1- -/
def execD10_1neg (s : State) : Result := .next (receiveGroup 0x26A#10 s)
/-- D10.1+ -/
def execD10_1pos (s : State) : Result := .next (receiveGroup 0x26A#10 s)
/-- D11.1- -/
def execD11_1neg (s : State) : Result := .next (receiveGroup 0x24B#10 s)
/-- D11.1+ -/
def execD11_1pos (s : State) : Result := .next (receiveGroup 0x24B#10 s)
/-- D12.1- -/
def execD12_1neg (s : State) : Result := .next (receiveGroup 0x26C#10 s)
/-- D12.1+ -/
def execD12_1pos (s : State) : Result := .next (receiveGroup 0x26C#10 s)
/-- D13.1- -/
def execD13_1neg (s : State) : Result := .next (receiveGroup 0x24D#10 s)
/-- D13.1+ -/
def execD13_1pos (s : State) : Result := .next (receiveGroup 0x24D#10 s)
/-- D14.1- -/
def execD14_1neg (s : State) : Result := .next (receiveGroup 0x24E#10 s)
/-- D14.1+ -/
def execD14_1pos (s : State) : Result := .next (receiveGroup 0x24E#10 s)
/-- D15.1- -/
def execD15_1neg (s : State) : Result := .next (receiveGroup 0x27A#10 s)
/-- D15.1+ -/
def execD15_1pos (s : State) : Result := .next (receiveGroup 0x245#10 s)
/-- D16.1- -/
def execD16_1neg (s : State) : Result := .next (receiveGroup 0x276#10 s)
/-- D16.1+ -/
def execD16_1pos (s : State) : Result := .next (receiveGroup 0x249#10 s)
/-- D17.1- -/
def execD17_1neg (s : State) : Result := .next (receiveGroup 0x271#10 s)
/-- D17.1+ -/
def execD17_1pos (s : State) : Result := .next (receiveGroup 0x271#10 s)
/-- D18.1- -/
def execD18_1neg (s : State) : Result := .next (receiveGroup 0x272#10 s)
/-- D18.1+ -/
def execD18_1pos (s : State) : Result := .next (receiveGroup 0x272#10 s)
/-- D19.1- -/
def execD19_1neg (s : State) : Result := .next (receiveGroup 0x253#10 s)
/-- D19.1+ -/
def execD19_1pos (s : State) : Result := .next (receiveGroup 0x253#10 s)
/-- D20.1- -/
def execD20_1neg (s : State) : Result := .next (receiveGroup 0x274#10 s)
/-- D20.1+ -/
def execD20_1pos (s : State) : Result := .next (receiveGroup 0x274#10 s)
/-- D21.1- -/
def execD21_1neg (s : State) : Result := .next (receiveGroup 0x255#10 s)
/-- D21.1+ -/
def execD21_1pos (s : State) : Result := .next (receiveGroup 0x255#10 s)
/-- D22.1- -/
def execD22_1neg (s : State) : Result := .next (receiveGroup 0x256#10 s)
/-- D22.1+ -/
def execD22_1pos (s : State) : Result := .next (receiveGroup 0x256#10 s)
/-- D23.1- -/
def execD23_1neg (s : State) : Result := .next (receiveGroup 0x257#10 s)
/-- D23.1+ -/
def execD23_1pos (s : State) : Result := .next (receiveGroup 0x268#10 s)
/-- D24.1- -/
def execD24_1neg (s : State) : Result := .next (receiveGroup 0x273#10 s)
/-- D24.1+ -/
def execD24_1pos (s : State) : Result := .next (receiveGroup 0x24C#10 s)
/-- D25.1- -/
def execD25_1neg (s : State) : Result := .next (receiveGroup 0x259#10 s)
/-- D25.1+ -/
def execD25_1pos (s : State) : Result := .next (receiveGroup 0x259#10 s)
/-- D26.1- -/
def execD26_1neg (s : State) : Result := .next (receiveGroup 0x25A#10 s)
/-- D26.1+ -/
def execD26_1pos (s : State) : Result := .next (receiveGroup 0x25A#10 s)
/-- D27.1- -/
def execD27_1neg (s : State) : Result := .next (receiveGroup 0x25B#10 s)
/-- D27.1+ -/
def execD27_1pos (s : State) : Result := .next (receiveGroup 0x264#10 s)
/-- D28.1- -/
def execD28_1neg (s : State) : Result := .next (receiveGroup 0x25C#10 s)
/-- D28.1+ -/
def execD28_1pos (s : State) : Result := .next (receiveGroup 0x25C#10 s)
/-- D29.1- -/
def execD29_1neg (s : State) : Result := .next (receiveGroup 0x25D#10 s)
/-- D29.1+ -/
def execD29_1pos (s : State) : Result := .next (receiveGroup 0x262#10 s)
/-- D30.1- -/
def execD30_1neg (s : State) : Result := .next (receiveGroup 0x25E#10 s)
/-- D30.1+ -/
def execD30_1pos (s : State) : Result := .next (receiveGroup 0x261#10 s)
/-- D31.1- -/
def execD31_1neg (s : State) : Result := .next (receiveGroup 0x275#10 s)
/-- D31.1+ -/
def execD31_1pos (s : State) : Result := .next (receiveGroup 0x24A#10 s)
/-- D0.2- -/
def execD0_2neg (s : State) : Result := .next (receiveGroup 0x2B9#10 s)
/-- D0.2+ -/
def execD0_2pos (s : State) : Result := .next (receiveGroup 0x286#10 s)
/-- D1.2- -/
def execD1_2neg (s : State) : Result := .next (receiveGroup 0x2AE#10 s)
/-- D1.2+ -/
def execD1_2pos (s : State) : Result := .next (receiveGroup 0x291#10 s)
/-- D2.2- -/
def execD2_2neg (s : State) : Result := .next (receiveGroup 0x2AD#10 s)
/-- D2.2+ -/
def execD2_2pos (s : State) : Result := .next (receiveGroup 0x292#10 s)
/-- D3.2- -/
def execD3_2neg (s : State) : Result := .next (receiveGroup 0x2A3#10 s)
/-- D3.2+ -/
def execD3_2pos (s : State) : Result := .next (receiveGroup 0x2A3#10 s)
/-- D4.2- -/
def execD4_2neg (s : State) : Result := .next (receiveGroup 0x2AB#10 s)
/-- D4.2+ -/
def execD4_2pos (s : State) : Result := .next (receiveGroup 0x294#10 s)
/-- D5.2- -/
def execD5_2neg (s : State) : Result := .next (receiveGroup 0x2A5#10 s)
/-- D5.2+ -/
def execD5_2pos (s : State) : Result := .next (receiveGroup 0x2A5#10 s)
/-- D6.2- -/
def execD6_2neg (s : State) : Result := .next (receiveGroup 0x2A6#10 s)
/-- D6.2+ -/
def execD6_2pos (s : State) : Result := .next (receiveGroup 0x2A6#10 s)
/-- D7.2- -/
def execD7_2neg (s : State) : Result := .next (receiveGroup 0x287#10 s)
/-- D7.2+ -/
def execD7_2pos (s : State) : Result := .next (receiveGroup 0x2B8#10 s)
/-- D8.2- -/
def execD8_2neg (s : State) : Result := .next (receiveGroup 0x2A7#10 s)
/-- D8.2+ -/
def execD8_2pos (s : State) : Result := .next (receiveGroup 0x298#10 s)
/-- D9.2- -/
def execD9_2neg (s : State) : Result := .next (receiveGroup 0x2A9#10 s)
/-- D9.2+ -/
def execD9_2pos (s : State) : Result := .next (receiveGroup 0x2A9#10 s)
/-- D10.2- -/
def execD10_2neg (s : State) : Result := .next (receiveGroup 0x2AA#10 s)
/-- D10.2+ -/
def execD10_2pos (s : State) : Result := .next (receiveGroup 0x2AA#10 s)
/-- D11.2- -/
def execD11_2neg (s : State) : Result := .next (receiveGroup 0x28B#10 s)
/-- D11.2+ -/
def execD11_2pos (s : State) : Result := .next (receiveGroup 0x28B#10 s)
/-- D12.2- -/
def execD12_2neg (s : State) : Result := .next (receiveGroup 0x2AC#10 s)
/-- D12.2+ -/
def execD12_2pos (s : State) : Result := .next (receiveGroup 0x2AC#10 s)
/-- D13.2- -/
def execD13_2neg (s : State) : Result := .next (receiveGroup 0x28D#10 s)
/-- D13.2+ -/
def execD13_2pos (s : State) : Result := .next (receiveGroup 0x28D#10 s)
/-- D14.2- -/
def execD14_2neg (s : State) : Result := .next (receiveGroup 0x28E#10 s)
/-- D14.2+ -/
def execD14_2pos (s : State) : Result := .next (receiveGroup 0x28E#10 s)
/-- D15.2- -/
def execD15_2neg (s : State) : Result := .next (receiveGroup 0x2BA#10 s)
/-- D15.2+ -/
def execD15_2pos (s : State) : Result := .next (receiveGroup 0x285#10 s)
/-- D16.2- -/
def execD16_2neg (s : State) : Result := .next (receiveGroup 0x2B6#10 s)
/-- D16.2+ -/
def execD16_2pos (s : State) : Result := .next (receiveGroup 0x289#10 s)
/-- D17.2- -/
def execD17_2neg (s : State) : Result := .next (receiveGroup 0x2B1#10 s)
/-- D17.2+ -/
def execD17_2pos (s : State) : Result := .next (receiveGroup 0x2B1#10 s)
/-- D18.2- -/
def execD18_2neg (s : State) : Result := .next (receiveGroup 0x2B2#10 s)
/-- D18.2+ -/
def execD18_2pos (s : State) : Result := .next (receiveGroup 0x2B2#10 s)
/-- D19.2- -/
def execD19_2neg (s : State) : Result := .next (receiveGroup 0x293#10 s)
/-- D19.2+ -/
def execD19_2pos (s : State) : Result := .next (receiveGroup 0x293#10 s)
/-- D20.2- -/
def execD20_2neg (s : State) : Result := .next (receiveGroup 0x2B4#10 s)
/-- D20.2+ -/
def execD20_2pos (s : State) : Result := .next (receiveGroup 0x2B4#10 s)
/-- D21.2- -/
def execD21_2neg (s : State) : Result := .next (receiveGroup 0x295#10 s)
/-- D21.2+ -/
def execD21_2pos (s : State) : Result := .next (receiveGroup 0x295#10 s)
/-- D22.2- -/
def execD22_2neg (s : State) : Result := .next (receiveGroup 0x296#10 s)
/-- D22.2+ -/
def execD22_2pos (s : State) : Result := .next (receiveGroup 0x296#10 s)
/-- D23.2- -/
def execD23_2neg (s : State) : Result := .next (receiveGroup 0x297#10 s)
/-- D23.2+ -/
def execD23_2pos (s : State) : Result := .next (receiveGroup 0x2A8#10 s)
/-- D24.2- -/
def execD24_2neg (s : State) : Result := .next (receiveGroup 0x2B3#10 s)
/-- D24.2+ -/
def execD24_2pos (s : State) : Result := .next (receiveGroup 0x28C#10 s)
/-- D25.2- -/
def execD25_2neg (s : State) : Result := .next (receiveGroup 0x299#10 s)
/-- D25.2+ -/
def execD25_2pos (s : State) : Result := .next (receiveGroup 0x299#10 s)
/-- D26.2- -/
def execD26_2neg (s : State) : Result := .next (receiveGroup 0x29A#10 s)
/-- D26.2+ -/
def execD26_2pos (s : State) : Result := .next (receiveGroup 0x29A#10 s)
/-- D27.2- -/
def execD27_2neg (s : State) : Result := .next (receiveGroup 0x29B#10 s)
/-- D27.2+ -/
def execD27_2pos (s : State) : Result := .next (receiveGroup 0x2A4#10 s)
/-- D28.2- -/
def execD28_2neg (s : State) : Result := .next (receiveGroup 0x29C#10 s)
/-- D28.2+ -/
def execD28_2pos (s : State) : Result := .next (receiveGroup 0x29C#10 s)
/-- D29.2- -/
def execD29_2neg (s : State) : Result := .next (receiveGroup 0x29D#10 s)
/-- D29.2+ -/
def execD29_2pos (s : State) : Result := .next (receiveGroup 0x2A2#10 s)
/-- D30.2- -/
def execD30_2neg (s : State) : Result := .next (receiveGroup 0x29E#10 s)
/-- D30.2+ -/
def execD30_2pos (s : State) : Result := .next (receiveGroup 0x2A1#10 s)
/-- D31.2- -/
def execD31_2neg (s : State) : Result := .next (receiveGroup 0x2B5#10 s)
/-- D31.2+ -/
def execD31_2pos (s : State) : Result := .next (receiveGroup 0x28A#10 s)
/-- D0.3- -/
def execD0_3neg (s : State) : Result := .next (receiveGroup 0x339#10 s)
/-- D0.3+ -/
def execD0_3pos (s : State) : Result := .next (receiveGroup 0x0C6#10 s)
/-- D1.3- -/
def execD1_3neg (s : State) : Result := .next (receiveGroup 0x32E#10 s)
/-- D1.3+ -/
def execD1_3pos (s : State) : Result := .next (receiveGroup 0x0D1#10 s)
/-- D2.3- -/
def execD2_3neg (s : State) : Result := .next (receiveGroup 0x32D#10 s)
/-- D2.3+ -/
def execD2_3pos (s : State) : Result := .next (receiveGroup 0x0D2#10 s)
/-- D3.3- -/
def execD3_3neg (s : State) : Result := .next (receiveGroup 0x0E3#10 s)
/-- D3.3+ -/
def execD3_3pos (s : State) : Result := .next (receiveGroup 0x323#10 s)
/-- D4.3- -/
def execD4_3neg (s : State) : Result := .next (receiveGroup 0x32B#10 s)
/-- D4.3+ -/
def execD4_3pos (s : State) : Result := .next (receiveGroup 0x0D4#10 s)
/-- D5.3- -/
def execD5_3neg (s : State) : Result := .next (receiveGroup 0x0E5#10 s)
/-- D5.3+ -/
def execD5_3pos (s : State) : Result := .next (receiveGroup 0x325#10 s)
/-- D6.3- -/
def execD6_3neg (s : State) : Result := .next (receiveGroup 0x0E6#10 s)
/-- D6.3+ -/
def execD6_3pos (s : State) : Result := .next (receiveGroup 0x326#10 s)
/-- D7.3- -/
def execD7_3neg (s : State) : Result := .next (receiveGroup 0x0C7#10 s)
/-- D7.3+ -/
def execD7_3pos (s : State) : Result := .next (receiveGroup 0x338#10 s)
/-- D8.3- -/
def execD8_3neg (s : State) : Result := .next (receiveGroup 0x327#10 s)
/-- D8.3+ -/
def execD8_3pos (s : State) : Result := .next (receiveGroup 0x0D8#10 s)
/-- D9.3- -/
def execD9_3neg (s : State) : Result := .next (receiveGroup 0x0E9#10 s)
/-- D9.3+ -/
def execD9_3pos (s : State) : Result := .next (receiveGroup 0x329#10 s)
/-- D10.3- -/
def execD10_3neg (s : State) : Result := .next (receiveGroup 0x0EA#10 s)
/-- D10.3+ -/
def execD10_3pos (s : State) : Result := .next (receiveGroup 0x32A#10 s)
/-- D11.3- -/
def execD11_3neg (s : State) : Result := .next (receiveGroup 0x0CB#10 s)
/-- D11.3+ -/
def execD11_3pos (s : State) : Result := .next (receiveGroup 0x30B#10 s)
/-- D12.3- -/
def execD12_3neg (s : State) : Result := .next (receiveGroup 0x0EC#10 s)
/-- D12.3+ -/
def execD12_3pos (s : State) : Result := .next (receiveGroup 0x32C#10 s)
/-- D13.3- -/
def execD13_3neg (s : State) : Result := .next (receiveGroup 0x0CD#10 s)
/-- D13.3+ -/
def execD13_3pos (s : State) : Result := .next (receiveGroup 0x30D#10 s)
/-- D14.3- -/
def execD14_3neg (s : State) : Result := .next (receiveGroup 0x0CE#10 s)
/-- D14.3+ -/
def execD14_3pos (s : State) : Result := .next (receiveGroup 0x30E#10 s)
/-- D15.3- -/
def execD15_3neg (s : State) : Result := .next (receiveGroup 0x33A#10 s)
/-- D15.3+ -/
def execD15_3pos (s : State) : Result := .next (receiveGroup 0x0C5#10 s)
/-- D16.3- -/
def execD16_3neg (s : State) : Result := .next (receiveGroup 0x336#10 s)
/-- D16.3+ -/
def execD16_3pos (s : State) : Result := .next (receiveGroup 0x0C9#10 s)
/-- D17.3- -/
def execD17_3neg (s : State) : Result := .next (receiveGroup 0x0F1#10 s)
/-- D17.3+ -/
def execD17_3pos (s : State) : Result := .next (receiveGroup 0x331#10 s)
/-- D18.3- -/
def execD18_3neg (s : State) : Result := .next (receiveGroup 0x0F2#10 s)
/-- D18.3+ -/
def execD18_3pos (s : State) : Result := .next (receiveGroup 0x332#10 s)
/-- D19.3- -/
def execD19_3neg (s : State) : Result := .next (receiveGroup 0x0D3#10 s)
/-- D19.3+ -/
def execD19_3pos (s : State) : Result := .next (receiveGroup 0x313#10 s)
/-- D20.3- -/
def execD20_3neg (s : State) : Result := .next (receiveGroup 0x0F4#10 s)
/-- D20.3+ -/
def execD20_3pos (s : State) : Result := .next (receiveGroup 0x334#10 s)
/-- D21.3- -/
def execD21_3neg (s : State) : Result := .next (receiveGroup 0x0D5#10 s)
/-- D21.3+ -/
def execD21_3pos (s : State) : Result := .next (receiveGroup 0x315#10 s)
/-- D22.3- -/
def execD22_3neg (s : State) : Result := .next (receiveGroup 0x0D6#10 s)
/-- D22.3+ -/
def execD22_3pos (s : State) : Result := .next (receiveGroup 0x316#10 s)
/-- D23.3- -/
def execD23_3neg (s : State) : Result := .next (receiveGroup 0x317#10 s)
/-- D23.3+ -/
def execD23_3pos (s : State) : Result := .next (receiveGroup 0x0E8#10 s)
/-- D24.3- -/
def execD24_3neg (s : State) : Result := .next (receiveGroup 0x333#10 s)
/-- D24.3+ -/
def execD24_3pos (s : State) : Result := .next (receiveGroup 0x0CC#10 s)
/-- D25.3- -/
def execD25_3neg (s : State) : Result := .next (receiveGroup 0x0D9#10 s)
/-- D25.3+ -/
def execD25_3pos (s : State) : Result := .next (receiveGroup 0x319#10 s)
/-- D26.3- -/
def execD26_3neg (s : State) : Result := .next (receiveGroup 0x0DA#10 s)
/-- D26.3+ -/
def execD26_3pos (s : State) : Result := .next (receiveGroup 0x31A#10 s)
/-- D27.3- -/
def execD27_3neg (s : State) : Result := .next (receiveGroup 0x31B#10 s)
/-- D27.3+ -/
def execD27_3pos (s : State) : Result := .next (receiveGroup 0x0E4#10 s)
/-- D28.3- -/
def execD28_3neg (s : State) : Result := .next (receiveGroup 0x0DC#10 s)
/-- D28.3+ -/
def execD28_3pos (s : State) : Result := .next (receiveGroup 0x31C#10 s)
/-- D29.3- -/
def execD29_3neg (s : State) : Result := .next (receiveGroup 0x31D#10 s)
/-- D29.3+ -/
def execD29_3pos (s : State) : Result := .next (receiveGroup 0x0E2#10 s)
/-- D30.3- -/
def execD30_3neg (s : State) : Result := .next (receiveGroup 0x31E#10 s)
/-- D30.3+ -/
def execD30_3pos (s : State) : Result := .next (receiveGroup 0x0E1#10 s)
/-- D31.3- -/
def execD31_3neg (s : State) : Result := .next (receiveGroup 0x335#10 s)
/-- D31.3+ -/
def execD31_3pos (s : State) : Result := .next (receiveGroup 0x0CA#10 s)
/-- D0.4- -/
def execD0_4neg (s : State) : Result := .next (receiveGroup 0x139#10 s)
/-- D0.4+ -/
def execD0_4pos (s : State) : Result := .next (receiveGroup 0x2C6#10 s)
/-- D1.4- -/
def execD1_4neg (s : State) : Result := .next (receiveGroup 0x12E#10 s)
/-- D1.4+ -/
def execD1_4pos (s : State) : Result := .next (receiveGroup 0x2D1#10 s)
/-- D2.4- -/
def execD2_4neg (s : State) : Result := .next (receiveGroup 0x12D#10 s)
/-- D2.4+ -/
def execD2_4pos (s : State) : Result := .next (receiveGroup 0x2D2#10 s)
/-- D3.4- -/
def execD3_4neg (s : State) : Result := .next (receiveGroup 0x2E3#10 s)
/-- D3.4+ -/
def execD3_4pos (s : State) : Result := .next (receiveGroup 0x123#10 s)
/-- D4.4- -/
def execD4_4neg (s : State) : Result := .next (receiveGroup 0x12B#10 s)
/-- D4.4+ -/
def execD4_4pos (s : State) : Result := .next (receiveGroup 0x2D4#10 s)
/-- D5.4- -/
def execD5_4neg (s : State) : Result := .next (receiveGroup 0x2E5#10 s)
/-- D5.4+ -/
def execD5_4pos (s : State) : Result := .next (receiveGroup 0x125#10 s)
/-- D6.4- -/
def execD6_4neg (s : State) : Result := .next (receiveGroup 0x2E6#10 s)
/-- D6.4+ -/
def execD6_4pos (s : State) : Result := .next (receiveGroup 0x126#10 s)
/-- D7.4- -/
def execD7_4neg (s : State) : Result := .next (receiveGroup 0x2C7#10 s)
/-- D7.4+ -/
def execD7_4pos (s : State) : Result := .next (receiveGroup 0x138#10 s)
/-- D8.4- -/
def execD8_4neg (s : State) : Result := .next (receiveGroup 0x127#10 s)
/-- D8.4+ -/
def execD8_4pos (s : State) : Result := .next (receiveGroup 0x2D8#10 s)
/-- D9.4- -/
def execD9_4neg (s : State) : Result := .next (receiveGroup 0x2E9#10 s)
/-- D9.4+ -/
def execD9_4pos (s : State) : Result := .next (receiveGroup 0x129#10 s)
/-- D10.4- -/
def execD10_4neg (s : State) : Result := .next (receiveGroup 0x2EA#10 s)
/-- D10.4+ -/
def execD10_4pos (s : State) : Result := .next (receiveGroup 0x12A#10 s)
/-- D11.4- -/
def execD11_4neg (s : State) : Result := .next (receiveGroup 0x2CB#10 s)
/-- D11.4+ -/
def execD11_4pos (s : State) : Result := .next (receiveGroup 0x10B#10 s)
/-- D12.4- -/
def execD12_4neg (s : State) : Result := .next (receiveGroup 0x2EC#10 s)
/-- D12.4+ -/
def execD12_4pos (s : State) : Result := .next (receiveGroup 0x12C#10 s)
/-- D13.4- -/
def execD13_4neg (s : State) : Result := .next (receiveGroup 0x2CD#10 s)
/-- D13.4+ -/
def execD13_4pos (s : State) : Result := .next (receiveGroup 0x10D#10 s)
/-- D14.4- -/
def execD14_4neg (s : State) : Result := .next (receiveGroup 0x2CE#10 s)
/-- D14.4+ -/
def execD14_4pos (s : State) : Result := .next (receiveGroup 0x10E#10 s)
/-- D15.4- -/
def execD15_4neg (s : State) : Result := .next (receiveGroup 0x13A#10 s)
/-- D15.4+ -/
def execD15_4pos (s : State) : Result := .next (receiveGroup 0x2C5#10 s)
/-- D16.4- -/
def execD16_4neg (s : State) : Result := .next (receiveGroup 0x136#10 s)
/-- D16.4+ -/
def execD16_4pos (s : State) : Result := .next (receiveGroup 0x2C9#10 s)
/-- D17.4- -/
def execD17_4neg (s : State) : Result := .next (receiveGroup 0x2F1#10 s)
/-- D17.4+ -/
def execD17_4pos (s : State) : Result := .next (receiveGroup 0x131#10 s)
/-- D18.4- -/
def execD18_4neg (s : State) : Result := .next (receiveGroup 0x2F2#10 s)
/-- D18.4+ -/
def execD18_4pos (s : State) : Result := .next (receiveGroup 0x132#10 s)
/-- D19.4- -/
def execD19_4neg (s : State) : Result := .next (receiveGroup 0x2D3#10 s)
/-- D19.4+ -/
def execD19_4pos (s : State) : Result := .next (receiveGroup 0x113#10 s)
/-- D20.4- -/
def execD20_4neg (s : State) : Result := .next (receiveGroup 0x2F4#10 s)
/-- D20.4+ -/
def execD20_4pos (s : State) : Result := .next (receiveGroup 0x134#10 s)
/-- D21.4- -/
def execD21_4neg (s : State) : Result := .next (receiveGroup 0x2D5#10 s)
/-- D21.4+ -/
def execD21_4pos (s : State) : Result := .next (receiveGroup 0x115#10 s)
/-- D22.4- -/
def execD22_4neg (s : State) : Result := .next (receiveGroup 0x2D6#10 s)
/-- D22.4+ -/
def execD22_4pos (s : State) : Result := .next (receiveGroup 0x116#10 s)
/-- D23.4- -/
def execD23_4neg (s : State) : Result := .next (receiveGroup 0x117#10 s)
/-- D23.4+ -/
def execD23_4pos (s : State) : Result := .next (receiveGroup 0x2E8#10 s)
/-- D24.4- -/
def execD24_4neg (s : State) : Result := .next (receiveGroup 0x133#10 s)
/-- D24.4+ -/
def execD24_4pos (s : State) : Result := .next (receiveGroup 0x2CC#10 s)
/-- D25.4- -/
def execD25_4neg (s : State) : Result := .next (receiveGroup 0x2D9#10 s)
/-- D25.4+ -/
def execD25_4pos (s : State) : Result := .next (receiveGroup 0x119#10 s)
/-- D26.4- -/
def execD26_4neg (s : State) : Result := .next (receiveGroup 0x2DA#10 s)
/-- D26.4+ -/
def execD26_4pos (s : State) : Result := .next (receiveGroup 0x11A#10 s)
/-- D27.4- -/
def execD27_4neg (s : State) : Result := .next (receiveGroup 0x11B#10 s)
/-- D27.4+ -/
def execD27_4pos (s : State) : Result := .next (receiveGroup 0x2E4#10 s)
/-- D28.4- -/
def execD28_4neg (s : State) : Result := .next (receiveGroup 0x2DC#10 s)
/-- D28.4+ -/
def execD28_4pos (s : State) : Result := .next (receiveGroup 0x11C#10 s)
/-- D29.4- -/
def execD29_4neg (s : State) : Result := .next (receiveGroup 0x11D#10 s)
/-- D29.4+ -/
def execD29_4pos (s : State) : Result := .next (receiveGroup 0x2E2#10 s)
/-- D30.4- -/
def execD30_4neg (s : State) : Result := .next (receiveGroup 0x11E#10 s)
/-- D30.4+ -/
def execD30_4pos (s : State) : Result := .next (receiveGroup 0x2E1#10 s)
/-- D31.4- -/
def execD31_4neg (s : State) : Result := .next (receiveGroup 0x135#10 s)
/-- D31.4+ -/
def execD31_4pos (s : State) : Result := .next (receiveGroup 0x2CA#10 s)
/-- D0.5- -/
def execD0_5neg (s : State) : Result := .next (receiveGroup 0x179#10 s)
/-- D0.5+ -/
def execD0_5pos (s : State) : Result := .next (receiveGroup 0x146#10 s)
/-- D1.5- -/
def execD1_5neg (s : State) : Result := .next (receiveGroup 0x16E#10 s)
/-- D1.5+ -/
def execD1_5pos (s : State) : Result := .next (receiveGroup 0x151#10 s)
/-- D2.5- -/
def execD2_5neg (s : State) : Result := .next (receiveGroup 0x16D#10 s)
/-- D2.5+ -/
def execD2_5pos (s : State) : Result := .next (receiveGroup 0x152#10 s)
/-- D3.5- -/
def execD3_5neg (s : State) : Result := .next (receiveGroup 0x163#10 s)
/-- D3.5+ -/
def execD3_5pos (s : State) : Result := .next (receiveGroup 0x163#10 s)
/-- D4.5- -/
def execD4_5neg (s : State) : Result := .next (receiveGroup 0x16B#10 s)
/-- D4.5+ -/
def execD4_5pos (s : State) : Result := .next (receiveGroup 0x154#10 s)
/-- D5.5- -/
def execD5_5neg (s : State) : Result := .next (receiveGroup 0x165#10 s)
/-- D5.5+ -/
def execD5_5pos (s : State) : Result := .next (receiveGroup 0x165#10 s)
/-- D6.5- -/
def execD6_5neg (s : State) : Result := .next (receiveGroup 0x166#10 s)
/-- D6.5+ -/
def execD6_5pos (s : State) : Result := .next (receiveGroup 0x166#10 s)
/-- D7.5- -/
def execD7_5neg (s : State) : Result := .next (receiveGroup 0x147#10 s)
/-- D7.5+ -/
def execD7_5pos (s : State) : Result := .next (receiveGroup 0x178#10 s)
/-- D8.5- -/
def execD8_5neg (s : State) : Result := .next (receiveGroup 0x167#10 s)
/-- D8.5+ -/
def execD8_5pos (s : State) : Result := .next (receiveGroup 0x158#10 s)
/-- D9.5- -/
def execD9_5neg (s : State) : Result := .next (receiveGroup 0x169#10 s)
/-- D9.5+ -/
def execD9_5pos (s : State) : Result := .next (receiveGroup 0x169#10 s)
/-- D10.5- -/
def execD10_5neg (s : State) : Result := .next (receiveGroup 0x16A#10 s)
/-- D10.5+ -/
def execD10_5pos (s : State) : Result := .next (receiveGroup 0x16A#10 s)
/-- D11.5- -/
def execD11_5neg (s : State) : Result := .next (receiveGroup 0x14B#10 s)
/-- D11.5+ -/
def execD11_5pos (s : State) : Result := .next (receiveGroup 0x14B#10 s)
/-- D12.5- -/
def execD12_5neg (s : State) : Result := .next (receiveGroup 0x16C#10 s)
/-- D12.5+ -/
def execD12_5pos (s : State) : Result := .next (receiveGroup 0x16C#10 s)
/-- D13.5- -/
def execD13_5neg (s : State) : Result := .next (receiveGroup 0x14D#10 s)
/-- D13.5+ -/
def execD13_5pos (s : State) : Result := .next (receiveGroup 0x14D#10 s)
/-- D14.5- -/
def execD14_5neg (s : State) : Result := .next (receiveGroup 0x14E#10 s)
/-- D14.5+ -/
def execD14_5pos (s : State) : Result := .next (receiveGroup 0x14E#10 s)
/-- D15.5- -/
def execD15_5neg (s : State) : Result := .next (receiveGroup 0x17A#10 s)
/-- D15.5+ -/
def execD15_5pos (s : State) : Result := .next (receiveGroup 0x145#10 s)
/-- D16.5- -/
def execD16_5neg (s : State) : Result := .next (receiveGroup 0x176#10 s)
/-- D16.5+ -/
def execD16_5pos (s : State) : Result := .next (receiveGroup 0x149#10 s)
/-- D17.5- -/
def execD17_5neg (s : State) : Result := .next (receiveGroup 0x171#10 s)
/-- D17.5+ -/
def execD17_5pos (s : State) : Result := .next (receiveGroup 0x171#10 s)
/-- D18.5- -/
def execD18_5neg (s : State) : Result := .next (receiveGroup 0x172#10 s)
/-- D18.5+ -/
def execD18_5pos (s : State) : Result := .next (receiveGroup 0x172#10 s)
/-- D19.5- -/
def execD19_5neg (s : State) : Result := .next (receiveGroup 0x153#10 s)
/-- D19.5+ -/
def execD19_5pos (s : State) : Result := .next (receiveGroup 0x153#10 s)
/-- D20.5- -/
def execD20_5neg (s : State) : Result := .next (receiveGroup 0x174#10 s)
/-- D20.5+ -/
def execD20_5pos (s : State) : Result := .next (receiveGroup 0x174#10 s)
/-- D21.5- -/
def execD21_5neg (s : State) : Result := .next (receiveGroup 0x155#10 s)
/-- D21.5+ -/
def execD21_5pos (s : State) : Result := .next (receiveGroup 0x155#10 s)
/-- D22.5- -/
def execD22_5neg (s : State) : Result := .next (receiveGroup 0x156#10 s)
/-- D22.5+ -/
def execD22_5pos (s : State) : Result := .next (receiveGroup 0x156#10 s)
/-- D23.5- -/
def execD23_5neg (s : State) : Result := .next (receiveGroup 0x157#10 s)
/-- D23.5+ -/
def execD23_5pos (s : State) : Result := .next (receiveGroup 0x168#10 s)
/-- D24.5- -/
def execD24_5neg (s : State) : Result := .next (receiveGroup 0x173#10 s)
/-- D24.5+ -/
def execD24_5pos (s : State) : Result := .next (receiveGroup 0x14C#10 s)
/-- D25.5- -/
def execD25_5neg (s : State) : Result := .next (receiveGroup 0x159#10 s)
/-- D25.5+ -/
def execD25_5pos (s : State) : Result := .next (receiveGroup 0x159#10 s)
/-- D26.5- -/
def execD26_5neg (s : State) : Result := .next (receiveGroup 0x15A#10 s)
/-- D26.5+ -/
def execD26_5pos (s : State) : Result := .next (receiveGroup 0x15A#10 s)
/-- D27.5- -/
def execD27_5neg (s : State) : Result := .next (receiveGroup 0x15B#10 s)
/-- D27.5+ -/
def execD27_5pos (s : State) : Result := .next (receiveGroup 0x164#10 s)
/-- D28.5- -/
def execD28_5neg (s : State) : Result := .next (receiveGroup 0x15C#10 s)
/-- D28.5+ -/
def execD28_5pos (s : State) : Result := .next (receiveGroup 0x15C#10 s)
/-- D29.5- -/
def execD29_5neg (s : State) : Result := .next (receiveGroup 0x15D#10 s)
/-- D29.5+ -/
def execD29_5pos (s : State) : Result := .next (receiveGroup 0x162#10 s)
/-- D30.5- -/
def execD30_5neg (s : State) : Result := .next (receiveGroup 0x15E#10 s)
/-- D30.5+ -/
def execD30_5pos (s : State) : Result := .next (receiveGroup 0x161#10 s)
/-- D31.5- -/
def execD31_5neg (s : State) : Result := .next (receiveGroup 0x175#10 s)
/-- D31.5+ -/
def execD31_5pos (s : State) : Result := .next (receiveGroup 0x14A#10 s)
/-- D0.6- -/
def execD0_6neg (s : State) : Result := .next (receiveGroup 0x1B9#10 s)
/-- D0.6+ -/
def execD0_6pos (s : State) : Result := .next (receiveGroup 0x186#10 s)
/-- D1.6- -/
def execD1_6neg (s : State) : Result := .next (receiveGroup 0x1AE#10 s)
/-- D1.6+ -/
def execD1_6pos (s : State) : Result := .next (receiveGroup 0x191#10 s)
/-- D2.6- -/
def execD2_6neg (s : State) : Result := .next (receiveGroup 0x1AD#10 s)
/-- D2.6+ -/
def execD2_6pos (s : State) : Result := .next (receiveGroup 0x192#10 s)
/-- D3.6- -/
def execD3_6neg (s : State) : Result := .next (receiveGroup 0x1A3#10 s)
/-- D3.6+ -/
def execD3_6pos (s : State) : Result := .next (receiveGroup 0x1A3#10 s)
/-- D4.6- -/
def execD4_6neg (s : State) : Result := .next (receiveGroup 0x1AB#10 s)
/-- D4.6+ -/
def execD4_6pos (s : State) : Result := .next (receiveGroup 0x194#10 s)
/-- D5.6- -/
def execD5_6neg (s : State) : Result := .next (receiveGroup 0x1A5#10 s)
/-- D5.6+ -/
def execD5_6pos (s : State) : Result := .next (receiveGroup 0x1A5#10 s)
/-- D6.6- -/
def execD6_6neg (s : State) : Result := .next (receiveGroup 0x1A6#10 s)
/-- D6.6+ -/
def execD6_6pos (s : State) : Result := .next (receiveGroup 0x1A6#10 s)
/-- D7.6- -/
def execD7_6neg (s : State) : Result := .next (receiveGroup 0x187#10 s)
/-- D7.6+ -/
def execD7_6pos (s : State) : Result := .next (receiveGroup 0x1B8#10 s)
/-- D8.6- -/
def execD8_6neg (s : State) : Result := .next (receiveGroup 0x1A7#10 s)
/-- D8.6+ -/
def execD8_6pos (s : State) : Result := .next (receiveGroup 0x198#10 s)
/-- D9.6- -/
def execD9_6neg (s : State) : Result := .next (receiveGroup 0x1A9#10 s)
/-- D9.6+ -/
def execD9_6pos (s : State) : Result := .next (receiveGroup 0x1A9#10 s)
/-- D10.6- -/
def execD10_6neg (s : State) : Result := .next (receiveGroup 0x1AA#10 s)
/-- D10.6+ -/
def execD10_6pos (s : State) : Result := .next (receiveGroup 0x1AA#10 s)
/-- D11.6- -/
def execD11_6neg (s : State) : Result := .next (receiveGroup 0x18B#10 s)
/-- D11.6+ -/
def execD11_6pos (s : State) : Result := .next (receiveGroup 0x18B#10 s)
/-- D12.6- -/
def execD12_6neg (s : State) : Result := .next (receiveGroup 0x1AC#10 s)
/-- D12.6+ -/
def execD12_6pos (s : State) : Result := .next (receiveGroup 0x1AC#10 s)
/-- D13.6- -/
def execD13_6neg (s : State) : Result := .next (receiveGroup 0x18D#10 s)
/-- D13.6+ -/
def execD13_6pos (s : State) : Result := .next (receiveGroup 0x18D#10 s)
/-- D14.6- -/
def execD14_6neg (s : State) : Result := .next (receiveGroup 0x18E#10 s)
/-- D14.6+ -/
def execD14_6pos (s : State) : Result := .next (receiveGroup 0x18E#10 s)
/-- D15.6- -/
def execD15_6neg (s : State) : Result := .next (receiveGroup 0x1BA#10 s)
/-- D15.6+ -/
def execD15_6pos (s : State) : Result := .next (receiveGroup 0x185#10 s)
/-- D16.6- -/
def execD16_6neg (s : State) : Result := .next (receiveGroup 0x1B6#10 s)
/-- D16.6+ -/
def execD16_6pos (s : State) : Result := .next (receiveGroup 0x189#10 s)
/-- D17.6- -/
def execD17_6neg (s : State) : Result := .next (receiveGroup 0x1B1#10 s)
/-- D17.6+ -/
def execD17_6pos (s : State) : Result := .next (receiveGroup 0x1B1#10 s)
/-- D18.6- -/
def execD18_6neg (s : State) : Result := .next (receiveGroup 0x1B2#10 s)
/-- D18.6+ -/
def execD18_6pos (s : State) : Result := .next (receiveGroup 0x1B2#10 s)
/-- D19.6- -/
def execD19_6neg (s : State) : Result := .next (receiveGroup 0x193#10 s)
/-- D19.6+ -/
def execD19_6pos (s : State) : Result := .next (receiveGroup 0x193#10 s)
/-- D20.6- -/
def execD20_6neg (s : State) : Result := .next (receiveGroup 0x1B4#10 s)
/-- D20.6+ -/
def execD20_6pos (s : State) : Result := .next (receiveGroup 0x1B4#10 s)
/-- D21.6- -/
def execD21_6neg (s : State) : Result := .next (receiveGroup 0x195#10 s)
/-- D21.6+ -/
def execD21_6pos (s : State) : Result := .next (receiveGroup 0x195#10 s)
/-- D22.6- -/
def execD22_6neg (s : State) : Result := .next (receiveGroup 0x196#10 s)
/-- D22.6+ -/
def execD22_6pos (s : State) : Result := .next (receiveGroup 0x196#10 s)
/-- D23.6- -/
def execD23_6neg (s : State) : Result := .next (receiveGroup 0x197#10 s)
/-- D23.6+ -/
def execD23_6pos (s : State) : Result := .next (receiveGroup 0x1A8#10 s)
/-- D24.6- -/
def execD24_6neg (s : State) : Result := .next (receiveGroup 0x1B3#10 s)
/-- D24.6+ -/
def execD24_6pos (s : State) : Result := .next (receiveGroup 0x18C#10 s)
/-- D25.6- -/
def execD25_6neg (s : State) : Result := .next (receiveGroup 0x199#10 s)
/-- D25.6+ -/
def execD25_6pos (s : State) : Result := .next (receiveGroup 0x199#10 s)
/-- D26.6- -/
def execD26_6neg (s : State) : Result := .next (receiveGroup 0x19A#10 s)
/-- D26.6+ -/
def execD26_6pos (s : State) : Result := .next (receiveGroup 0x19A#10 s)
/-- D27.6- -/
def execD27_6neg (s : State) : Result := .next (receiveGroup 0x19B#10 s)
/-- D27.6+ -/
def execD27_6pos (s : State) : Result := .next (receiveGroup 0x1A4#10 s)
/-- D28.6- -/
def execD28_6neg (s : State) : Result := .next (receiveGroup 0x19C#10 s)
/-- D28.6+ -/
def execD28_6pos (s : State) : Result := .next (receiveGroup 0x19C#10 s)
/-- D29.6- -/
def execD29_6neg (s : State) : Result := .next (receiveGroup 0x19D#10 s)
/-- D29.6+ -/
def execD29_6pos (s : State) : Result := .next (receiveGroup 0x1A2#10 s)
/-- D30.6- -/
def execD30_6neg (s : State) : Result := .next (receiveGroup 0x19E#10 s)
/-- D30.6+ -/
def execD30_6pos (s : State) : Result := .next (receiveGroup 0x1A1#10 s)
/-- D31.6- -/
def execD31_6neg (s : State) : Result := .next (receiveGroup 0x1B5#10 s)
/-- D31.6+ -/
def execD31_6pos (s : State) : Result := .next (receiveGroup 0x18A#10 s)
/-- D0.7- -/
def execD0_7neg (s : State) : Result := .next (receiveGroup 0x239#10 s)
/-- D0.7+ -/
def execD0_7pos (s : State) : Result := .next (receiveGroup 0x1C6#10 s)
/-- D1.7- -/
def execD1_7neg (s : State) : Result := .next (receiveGroup 0x22E#10 s)
/-- D1.7+ -/
def execD1_7pos (s : State) : Result := .next (receiveGroup 0x1D1#10 s)
/-- D2.7- -/
def execD2_7neg (s : State) : Result := .next (receiveGroup 0x22D#10 s)
/-- D2.7+ -/
def execD2_7pos (s : State) : Result := .next (receiveGroup 0x1D2#10 s)
/-- D3.7- -/
def execD3_7neg (s : State) : Result := .next (receiveGroup 0x1E3#10 s)
/-- D3.7+ -/
def execD3_7pos (s : State) : Result := .next (receiveGroup 0x223#10 s)
/-- D4.7- -/
def execD4_7neg (s : State) : Result := .next (receiveGroup 0x22B#10 s)
/-- D4.7+ -/
def execD4_7pos (s : State) : Result := .next (receiveGroup 0x1D4#10 s)
/-- D5.7- -/
def execD5_7neg (s : State) : Result := .next (receiveGroup 0x1E5#10 s)
/-- D5.7+ -/
def execD5_7pos (s : State) : Result := .next (receiveGroup 0x225#10 s)
/-- D6.7- -/
def execD6_7neg (s : State) : Result := .next (receiveGroup 0x1E6#10 s)
/-- D6.7+ -/
def execD6_7pos (s : State) : Result := .next (receiveGroup 0x226#10 s)
/-- D7.7- -/
def execD7_7neg (s : State) : Result := .next (receiveGroup 0x1C7#10 s)
/-- D7.7+ -/
def execD7_7pos (s : State) : Result := .next (receiveGroup 0x238#10 s)
/-- D8.7- -/
def execD8_7neg (s : State) : Result := .next (receiveGroup 0x227#10 s)
/-- D8.7+ -/
def execD8_7pos (s : State) : Result := .next (receiveGroup 0x1D8#10 s)
/-- D9.7- -/
def execD9_7neg (s : State) : Result := .next (receiveGroup 0x1E9#10 s)
/-- D9.7+ -/
def execD9_7pos (s : State) : Result := .next (receiveGroup 0x229#10 s)
/-- D10.7- -/
def execD10_7neg (s : State) : Result := .next (receiveGroup 0x1EA#10 s)
/-- D10.7+ -/
def execD10_7pos (s : State) : Result := .next (receiveGroup 0x22A#10 s)
/-- D11.7- -/
def execD11_7neg (s : State) : Result := .next (receiveGroup 0x1CB#10 s)
/-- D11.7+ -/
def execD11_7pos (s : State) : Result := .next (receiveGroup 0x04B#10 s)
/-- D12.7- -/
def execD12_7neg (s : State) : Result := .next (receiveGroup 0x1EC#10 s)
/-- D12.7+ -/
def execD12_7pos (s : State) : Result := .next (receiveGroup 0x22C#10 s)
/-- D13.7- -/
def execD13_7neg (s : State) : Result := .next (receiveGroup 0x1CD#10 s)
/-- D13.7+ -/
def execD13_7pos (s : State) : Result := .next (receiveGroup 0x04D#10 s)
/-- D14.7- -/
def execD14_7neg (s : State) : Result := .next (receiveGroup 0x1CE#10 s)
/-- D14.7+ -/
def execD14_7pos (s : State) : Result := .next (receiveGroup 0x04E#10 s)
/-- D15.7- -/
def execD15_7neg (s : State) : Result := .next (receiveGroup 0x23A#10 s)
/-- D15.7+ -/
def execD15_7pos (s : State) : Result := .next (receiveGroup 0x1C5#10 s)
/-- D16.7- -/
def execD16_7neg (s : State) : Result := .next (receiveGroup 0x236#10 s)
/-- D16.7+ -/
def execD16_7pos (s : State) : Result := .next (receiveGroup 0x1C9#10 s)
/-- D17.7- -/
def execD17_7neg (s : State) : Result := .next (receiveGroup 0x3B1#10 s)
/-- D17.7+ -/
def execD17_7pos (s : State) : Result := .next (receiveGroup 0x231#10 s)
/-- D18.7- -/
def execD18_7neg (s : State) : Result := .next (receiveGroup 0x3B2#10 s)
/-- D18.7+ -/
def execD18_7pos (s : State) : Result := .next (receiveGroup 0x232#10 s)
/-- D19.7- -/
def execD19_7neg (s : State) : Result := .next (receiveGroup 0x1D3#10 s)
/-- D19.7+ -/
def execD19_7pos (s : State) : Result := .next (receiveGroup 0x213#10 s)
/-- D20.7- -/
def execD20_7neg (s : State) : Result := .next (receiveGroup 0x3B4#10 s)
/-- D20.7+ -/
def execD20_7pos (s : State) : Result := .next (receiveGroup 0x234#10 s)
/-- D21.7- -/
def execD21_7neg (s : State) : Result := .next (receiveGroup 0x1D5#10 s)
/-- D21.7+ -/
def execD21_7pos (s : State) : Result := .next (receiveGroup 0x215#10 s)
/-- D22.7- -/
def execD22_7neg (s : State) : Result := .next (receiveGroup 0x1D6#10 s)
/-- D22.7+ -/
def execD22_7pos (s : State) : Result := .next (receiveGroup 0x216#10 s)
/-- D23.7- -/
def execD23_7neg (s : State) : Result := .next (receiveGroup 0x217#10 s)
/-- D23.7+ -/
def execD23_7pos (s : State) : Result := .next (receiveGroup 0x1E8#10 s)
/-- D24.7- -/
def execD24_7neg (s : State) : Result := .next (receiveGroup 0x233#10 s)
/-- D24.7+ -/
def execD24_7pos (s : State) : Result := .next (receiveGroup 0x1CC#10 s)
/-- D25.7- -/
def execD25_7neg (s : State) : Result := .next (receiveGroup 0x1D9#10 s)
/-- D25.7+ -/
def execD25_7pos (s : State) : Result := .next (receiveGroup 0x219#10 s)
/-- D26.7- -/
def execD26_7neg (s : State) : Result := .next (receiveGroup 0x1DA#10 s)
/-- D26.7+ -/
def execD26_7pos (s : State) : Result := .next (receiveGroup 0x21A#10 s)
/-- D27.7- -/
def execD27_7neg (s : State) : Result := .next (receiveGroup 0x21B#10 s)
/-- D27.7+ -/
def execD27_7pos (s : State) : Result := .next (receiveGroup 0x1E4#10 s)
/-- D28.7- -/
def execD28_7neg (s : State) : Result := .next (receiveGroup 0x1DC#10 s)
/-- D28.7+ -/
def execD28_7pos (s : State) : Result := .next (receiveGroup 0x21C#10 s)
/-- D29.7- -/
def execD29_7neg (s : State) : Result := .next (receiveGroup 0x21D#10 s)
/-- D29.7+ -/
def execD29_7pos (s : State) : Result := .next (receiveGroup 0x1E2#10 s)
/-- D30.7- -/
def execD30_7neg (s : State) : Result := .next (receiveGroup 0x21E#10 s)
/-- D30.7+ -/
def execD30_7pos (s : State) : Result := .next (receiveGroup 0x1E1#10 s)
/-- D31.7- -/
def execD31_7neg (s : State) : Result := .next (receiveGroup 0x235#10 s)
/-- D31.7+ -/
def execD31_7pos (s : State) : Result := .next (receiveGroup 0x1CA#10 s)
/-- K28.5- -/
def execK28_5neg (s : State) : Result := .next (receiveGroup 0x17C#10 s)
/-- K28.5+ -/
def execK28_5pos (s : State) : Result := .next (receiveGroup 0x283#10 s)
/-- K27.7- -/
def execK27_7neg (s : State) : Result := .next (receiveGroup 0x05B#10 s)
/-- K27.7+ -/
def execK27_7pos (s : State) : Result := .next (receiveGroup 0x3A4#10 s)

/-- INVALID_GROUP: any other group; the RD after it is `RdAfter` all the same (40_linecodec.md R119). -/
def execInvalidGroup (_ : RD) (g : Group) (s : State) : Result := .next (receiveGroup g s)

end Sys2Proof.Machine
end

