-- ==== Sys2Proof/Machine/Messages.lean ====
section
/-! DEFINITION. The meanings of the message rows (30_encoding.md R86, R94): a message in `held` is taken by the tunnel,
and a frame with a malformed header is discarded. -/

namespace Sys2Proof.Machine

/-- WRITE (45_bustunnel.md R241; at a requester R239). -/
def execMsgWrite (be : ByteEnable) (addr data : Word) (s : State) : Result :=
  .next (tunnelReceive { mtype := typeWrite, be := be, addr := addr, data := data } s)

/-- READ (45_bustunnel.md R241; at a requester R239). Its DATA word is ignored (30_encoding.md R87). -/
def execMsgRead (be : ByteEnable) (addr data : Word) (s : State) : Result :=
  .next (tunnelReceive { mtype := typeRead, be := be, addr := addr, data := data } s)

/-- RESPONSE (45_bustunnel.md R239; at a completer R241). Its BE is not checked. -/
def execMsgResponse (be : ByteEnable) (addr data : Word) (s : State) : Result :=
  .next (tunnelReceive { mtype := typeResponse, be := be, addr := addr, data := data } s)

/-- MALFORMED_HEADER: the frame is discarded and counted once (44_framer.md R217). -/
def execMalformedHeader (_ _ _ : Word) (s : State) : Result := .next (discardFrame s)

end Sys2Proof.Machine
end

