-- ==== Sys2Proof/Machine/Flags.lean ====
section
/-! DEFINITION. The status bits. The block has no condition codes (10_state.md R22): what a host can read of its state is
STATUS and the other registers of 10_state.md R51 to R55, each computed from the state when it is read. -/

namespace Sys2Proof.Machine

/-- The 3-bit code of a link state (10_state.md R24). -/
def LinkState.code : LinkState → BitVec 3
  | .reset => 0
  | .sendTraining => 1
  | .waitAlign => 2
  | .aligned => 3
  | .ready => 4
  | .error => 5

/-- A condition as one bit. -/
def bit (b : Bool) : BitVec 1 := if b then 1#1 else 0#1

/-- STATUS.READY (10_state.md R52; 90_conflicts.md C1). -/
def statusReady (s : State) : Bool := s.line.linkState == .ready
/-- STATUS.ERROR. -/
def statusError (s : State) : Bool := s.line.linkState == .error
/-- STATUS.ALIGNED: in ALIGNED and in READY. -/
def statusAligned (s : State) : Bool := s.line.linkState == .aligned || s.line.linkState == .ready

/-- `StatusValue()` (47_control.md R287, 10_state.md R52), bit 31 leftmost. -/
def statusValue (s : State) : Word :=
  0#10 ++ BitVec.ofNat 6 s.line.alignOffset.val ++ s.regs.cause ++ 0#1 ++ s.line.linkState.code ++ 0#1 ++
    bit s.regs.phyReadyLast ++ bit s.regs.rxOverflow ++ bit s.regs.rxIdleLast ++ bit s.line.lock ++
    bit (statusAligned s) ++ bit (statusError s) ++ bit (statusReady s)

/-- The value of CONTROL: LINK_RESET reads 0 (47_control.md R285). -/
def controlValue (s : State) : Word := 0#30 ++ bit s.regs.scrBypass ++ 0#1

end Sys2Proof.Machine
end

