-- ==== Sys2Proof/Machine/Registers.lean ====
section
/-! DEFINITION. The meanings of the register accesses (47_control.md). Each is one atomic bus step. -/

namespace Sys2Proof.Machine

/-- A CSRR returns a value and has no other effect (R285). -/
def returnToHost (v : Word) (s : State) : State := s.putPorts { s.ports with hostValue := v }

/-- A write that is ignored (R285). -/
def ignoreWrite (s : State) : State := s

/-- CSRW CONTROL (R285, R286; 10_state.md R51). -/
def execCsrwControl (val : Word) (s : State) : Result :=
  .next (s.putRegs { s.regs with
    linkResetReq := s.regs.linkResetReq || val.getLsbD 0, scrBypass := val.getLsbD 1 })

/-- CSRR CONTROL (R285). -/
def execCsrrControl (s : State) : Result := .next (returnToHost (controlValue s) s)

/-- CSRR STATUS (R287). Reading a reserved cause code is a Fault (60_exceptions.md R301). -/
def execCsrrStatus (s : State) : Result :=
  if 8 ≤ s.regs.cause.toNat then .fault (.reservedCause s.regs.cause) else .next (returnToHost (statusValue s) s)

/-- CSRW STATUS: ignored (R285, R287). -/
def execCsrwStatus (_ : Word) (s : State) : Result := .next (ignoreWrite s)

/-- CSRW CLEAR (R288; 10_state.md R53). -/
def execCsrwClear (val : Word) (s : State) : Result :=
  .next (s.putRegs { s.regs with
    rxOverflow := s.regs.rxOverflow && !val.getLsbD 0,
    cause := if val.getLsbD 1 then 0 else s.regs.cause,
    frameDropCount := if val.getLsbD 2 then 0 else s.regs.frameDropCount,
    decodeErrorCount := if val.getLsbD 3 then 0 else s.regs.decodeErrorCount })

/-- CSRR CLEAR: reads 0 (R285). -/
def execCsrrClear (s : State) : Result := .next (returnToHost 0 s)

/-- CSRR FRAME_DROP_COUNT (R285, R289). -/
def execCsrrFrameDropCount (s : State) : Result := .next (returnToHost s.regs.frameDropCount s)

/-- CSRR DECODE_ERROR_COUNT (R285, R289). -/
def execCsrrDecodeErrorCount (s : State) : Result := .next (returnToHost s.regs.decodeErrorCount s)

/-- CSRW FRAME_DROP_COUNT: ignored (R285, R289). -/
def execCsrwFrameDropCount (_ : Word) (s : State) : Result := .next (ignoreWrite s)

/-- CSRW DECODE_ERROR_COUNT: ignored (R285, R289). -/
def execCsrwDecodeErrorCount (_ : Word) (s : State) : Result := .next (ignoreWrite s)

/-- An access to an unused offset: reads 0, ignores writes (10_state.md R56; R285). -/
def execCsrReserved (write : Bool) (_ _ : Word) (s : State) : Result :=
  .next (if write then ignoreWrite s else returnToHost 0 s)

end Sys2Proof.Machine
end

