-- ==== Sys2Proof/Machine/Dispatch.lean ====
section
/-! DEFINITION. One arm per row of spec/opcode_table.json. -/

namespace Sys2Proof.Machine

open Sys2Proof

def exec (i : Instr) (s : State) : Host.Outcome State Fault Refusal :=
  match i with
  | .d0_0neg => Sys2Proof.Machine.execD0_0neg s
  | .d0_0pos => Sys2Proof.Machine.execD0_0pos s
  | .d1_0neg => Sys2Proof.Machine.execD1_0neg s
  | .d1_0pos => Sys2Proof.Machine.execD1_0pos s
  | .d2_0neg => Sys2Proof.Machine.execD2_0neg s
  | .d2_0pos => Sys2Proof.Machine.execD2_0pos s
  | .d3_0neg => Sys2Proof.Machine.execD3_0neg s
  | .d3_0pos => Sys2Proof.Machine.execD3_0pos s
  | .d4_0neg => Sys2Proof.Machine.execD4_0neg s
  | .d4_0pos => Sys2Proof.Machine.execD4_0pos s
  | .d5_0neg => Sys2Proof.Machine.execD5_0neg s
  | .d5_0pos => Sys2Proof.Machine.execD5_0pos s
  | .d6_0neg => Sys2Proof.Machine.execD6_0neg s
  | .d6_0pos => Sys2Proof.Machine.execD6_0pos s
  | .d7_0neg => Sys2Proof.Machine.execD7_0neg s
  | .d7_0pos => Sys2Proof.Machine.execD7_0pos s
  | .d8_0neg => Sys2Proof.Machine.execD8_0neg s
  | .d8_0pos => Sys2Proof.Machine.execD8_0pos s
  | .d9_0neg => Sys2Proof.Machine.execD9_0neg s
  | .d9_0pos => Sys2Proof.Machine.execD9_0pos s
  | .d10_0neg => Sys2Proof.Machine.execD10_0neg s
  | .d10_0pos => Sys2Proof.Machine.execD10_0pos s
  | .d11_0neg => Sys2Proof.Machine.execD11_0neg s
  | .d11_0pos => Sys2Proof.Machine.execD11_0pos s
  | .d12_0neg => Sys2Proof.Machine.execD12_0neg s
  | .d12_0pos => Sys2Proof.Machine.execD12_0pos s
  | .d13_0neg => Sys2Proof.Machine.execD13_0neg s
  | .d13_0pos => Sys2Proof.Machine.execD13_0pos s
  | .d14_0neg => Sys2Proof.Machine.execD14_0neg s
  | .d14_0pos => Sys2Proof.Machine.execD14_0pos s
  | .d15_0neg => Sys2Proof.Machine.execD15_0neg s
  | .d15_0pos => Sys2Proof.Machine.execD15_0pos s
  | .d16_0neg => Sys2Proof.Machine.execD16_0neg s
  | .d16_0pos => Sys2Proof.Machine.execD16_0pos s
  | .d17_0neg => Sys2Proof.Machine.execD17_0neg s
  | .d17_0pos => Sys2Proof.Machine.execD17_0pos s
  | .d18_0neg => Sys2Proof.Machine.execD18_0neg s
  | .d18_0pos => Sys2Proof.Machine.execD18_0pos s
  | .d19_0neg => Sys2Proof.Machine.execD19_0neg s
  | .d19_0pos => Sys2Proof.Machine.execD19_0pos s
  | .d20_0neg => Sys2Proof.Machine.execD20_0neg s
  | .d20_0pos => Sys2Proof.Machine.execD20_0pos s
  | .d21_0neg => Sys2Proof.Machine.execD21_0neg s
  | .d21_0pos => Sys2Proof.Machine.execD21_0pos s
  | .d22_0neg => Sys2Proof.Machine.execD22_0neg s
  | .d22_0pos => Sys2Proof.Machine.execD22_0pos s
  | .d23_0neg => Sys2Proof.Machine.execD23_0neg s
  | .d23_0pos => Sys2Proof.Machine.execD23_0pos s
  | .d24_0neg => Sys2Proof.Machine.execD24_0neg s
  | .d24_0pos => Sys2Proof.Machine.execD24_0pos s
  | .d25_0neg => Sys2Proof.Machine.execD25_0neg s
  | .d25_0pos => Sys2Proof.Machine.execD25_0pos s
  | .d26_0neg => Sys2Proof.Machine.execD26_0neg s
  | .d26_0pos => Sys2Proof.Machine.execD26_0pos s
  | .d27_0neg => Sys2Proof.Machine.execD27_0neg s
  | .d27_0pos => Sys2Proof.Machine.execD27_0pos s
  | .d28_0neg => Sys2Proof.Machine.execD28_0neg s
  | .d28_0pos => Sys2Proof.Machine.execD28_0pos s
  | .d29_0neg => Sys2Proof.Machine.execD29_0neg s
  | .d29_0pos => Sys2Proof.Machine.execD29_0pos s
  | .d30_0neg => Sys2Proof.Machine.execD30_0neg s
  | .d30_0pos => Sys2Proof.Machine.execD30_0pos s
  | .d31_0neg => Sys2Proof.Machine.execD31_0neg s
  | .d31_0pos => Sys2Proof.Machine.execD31_0pos s
  | .d0_1neg => Sys2Proof.Machine.execD0_1neg s
  | .d0_1pos => Sys2Proof.Machine.execD0_1pos s
  | .d1_1neg => Sys2Proof.Machine.execD1_1neg s
  | .d1_1pos => Sys2Proof.Machine.execD1_1pos s
  | .d2_1neg => Sys2Proof.Machine.execD2_1neg s
  | .d2_1pos => Sys2Proof.Machine.execD2_1pos s
  | .d3_1neg => Sys2Proof.Machine.execD3_1neg s
  | .d3_1pos => Sys2Proof.Machine.execD3_1pos s
  | .d4_1neg => Sys2Proof.Machine.execD4_1neg s
  | .d4_1pos => Sys2Proof.Machine.execD4_1pos s
  | .d5_1neg => Sys2Proof.Machine.execD5_1neg s
  | .d5_1pos => Sys2Proof.Machine.execD5_1pos s
  | .d6_1neg => Sys2Proof.Machine.execD6_1neg s
  | .d6_1pos => Sys2Proof.Machine.execD6_1pos s
  | .d7_1neg => Sys2Proof.Machine.execD7_1neg s
  | .d7_1pos => Sys2Proof.Machine.execD7_1pos s
  | .d8_1neg => Sys2Proof.Machine.execD8_1neg s
  | .d8_1pos => Sys2Proof.Machine.execD8_1pos s
  | .d9_1neg => Sys2Proof.Machine.execD9_1neg s
  | .d9_1pos => Sys2Proof.Machine.execD9_1pos s
  | .d10_1neg => Sys2Proof.Machine.execD10_1neg s
  | .d10_1pos => Sys2Proof.Machine.execD10_1pos s
  | .d11_1neg => Sys2Proof.Machine.execD11_1neg s
  | .d11_1pos => Sys2Proof.Machine.execD11_1pos s
  | .d12_1neg => Sys2Proof.Machine.execD12_1neg s
  | .d12_1pos => Sys2Proof.Machine.execD12_1pos s
  | .d13_1neg => Sys2Proof.Machine.execD13_1neg s
  | .d13_1pos => Sys2Proof.Machine.execD13_1pos s
  | .d14_1neg => Sys2Proof.Machine.execD14_1neg s
  | .d14_1pos => Sys2Proof.Machine.execD14_1pos s
  | .d15_1neg => Sys2Proof.Machine.execD15_1neg s
  | .d15_1pos => Sys2Proof.Machine.execD15_1pos s
  | .d16_1neg => Sys2Proof.Machine.execD16_1neg s
  | .d16_1pos => Sys2Proof.Machine.execD16_1pos s
  | .d17_1neg => Sys2Proof.Machine.execD17_1neg s
  | .d17_1pos => Sys2Proof.Machine.execD17_1pos s
  | .d18_1neg => Sys2Proof.Machine.execD18_1neg s
  | .d18_1pos => Sys2Proof.Machine.execD18_1pos s
  | .d19_1neg => Sys2Proof.Machine.execD19_1neg s
  | .d19_1pos => Sys2Proof.Machine.execD19_1pos s
  | .d20_1neg => Sys2Proof.Machine.execD20_1neg s
  | .d20_1pos => Sys2Proof.Machine.execD20_1pos s
  | .d21_1neg => Sys2Proof.Machine.execD21_1neg s
  | .d21_1pos => Sys2Proof.Machine.execD21_1pos s
  | .d22_1neg => Sys2Proof.Machine.execD22_1neg s
  | .d22_1pos => Sys2Proof.Machine.execD22_1pos s
  | .d23_1neg => Sys2Proof.Machine.execD23_1neg s
  | .d23_1pos => Sys2Proof.Machine.execD23_1pos s
  | .d24_1neg => Sys2Proof.Machine.execD24_1neg s
  | .d24_1pos => Sys2Proof.Machine.execD24_1pos s
  | .d25_1neg => Sys2Proof.Machine.execD25_1neg s
  | .d25_1pos => Sys2Proof.Machine.execD25_1pos s
  | .d26_1neg => Sys2Proof.Machine.execD26_1neg s
  | .d26_1pos => Sys2Proof.Machine.execD26_1pos s
  | .d27_1neg => Sys2Proof.Machine.execD27_1neg s
  | .d27_1pos => Sys2Proof.Machine.execD27_1pos s
  | .d28_1neg => Sys2Proof.Machine.execD28_1neg s
  | .d28_1pos => Sys2Proof.Machine.execD28_1pos s
  | .d29_1neg => Sys2Proof.Machine.execD29_1neg s
  | .d29_1pos => Sys2Proof.Machine.execD29_1pos s
  | .d30_1neg => Sys2Proof.Machine.execD30_1neg s
  | .d30_1pos => Sys2Proof.Machine.execD30_1pos s
  | .d31_1neg => Sys2Proof.Machine.execD31_1neg s
  | .d31_1pos => Sys2Proof.Machine.execD31_1pos s
  | .d0_2neg => Sys2Proof.Machine.execD0_2neg s
  | .d0_2pos => Sys2Proof.Machine.execD0_2pos s
  | .d1_2neg => Sys2Proof.Machine.execD1_2neg s
  | .d1_2pos => Sys2Proof.Machine.execD1_2pos s
  | .d2_2neg => Sys2Proof.Machine.execD2_2neg s
  | .d2_2pos => Sys2Proof.Machine.execD2_2pos s
  | .d3_2neg => Sys2Proof.Machine.execD3_2neg s
  | .d3_2pos => Sys2Proof.Machine.execD3_2pos s
  | .d4_2neg => Sys2Proof.Machine.execD4_2neg s
  | .d4_2pos => Sys2Proof.Machine.execD4_2pos s
  | .d5_2neg => Sys2Proof.Machine.execD5_2neg s
  | .d5_2pos => Sys2Proof.Machine.execD5_2pos s
  | .d6_2neg => Sys2Proof.Machine.execD6_2neg s
  | .d6_2pos => Sys2Proof.Machine.execD6_2pos s
  | .d7_2neg => Sys2Proof.Machine.execD7_2neg s
  | .d7_2pos => Sys2Proof.Machine.execD7_2pos s
  | .d8_2neg => Sys2Proof.Machine.execD8_2neg s
  | .d8_2pos => Sys2Proof.Machine.execD8_2pos s
  | .d9_2neg => Sys2Proof.Machine.execD9_2neg s
  | .d9_2pos => Sys2Proof.Machine.execD9_2pos s
  | .d10_2neg => Sys2Proof.Machine.execD10_2neg s
  | .d10_2pos => Sys2Proof.Machine.execD10_2pos s
  | .d11_2neg => Sys2Proof.Machine.execD11_2neg s
  | .d11_2pos => Sys2Proof.Machine.execD11_2pos s
  | .d12_2neg => Sys2Proof.Machine.execD12_2neg s
  | .d12_2pos => Sys2Proof.Machine.execD12_2pos s
  | .d13_2neg => Sys2Proof.Machine.execD13_2neg s
  | .d13_2pos => Sys2Proof.Machine.execD13_2pos s
  | .d14_2neg => Sys2Proof.Machine.execD14_2neg s
  | .d14_2pos => Sys2Proof.Machine.execD14_2pos s
  | .d15_2neg => Sys2Proof.Machine.execD15_2neg s
  | .d15_2pos => Sys2Proof.Machine.execD15_2pos s
  | .d16_2neg => Sys2Proof.Machine.execD16_2neg s
  | .d16_2pos => Sys2Proof.Machine.execD16_2pos s
  | .d17_2neg => Sys2Proof.Machine.execD17_2neg s
  | .d17_2pos => Sys2Proof.Machine.execD17_2pos s
  | .d18_2neg => Sys2Proof.Machine.execD18_2neg s
  | .d18_2pos => Sys2Proof.Machine.execD18_2pos s
  | .d19_2neg => Sys2Proof.Machine.execD19_2neg s
  | .d19_2pos => Sys2Proof.Machine.execD19_2pos s
  | .d20_2neg => Sys2Proof.Machine.execD20_2neg s
  | .d20_2pos => Sys2Proof.Machine.execD20_2pos s
  | .d21_2neg => Sys2Proof.Machine.execD21_2neg s
  | .d21_2pos => Sys2Proof.Machine.execD21_2pos s
  | .d22_2neg => Sys2Proof.Machine.execD22_2neg s
  | .d22_2pos => Sys2Proof.Machine.execD22_2pos s
  | .d23_2neg => Sys2Proof.Machine.execD23_2neg s
  | .d23_2pos => Sys2Proof.Machine.execD23_2pos s
  | .d24_2neg => Sys2Proof.Machine.execD24_2neg s
  | .d24_2pos => Sys2Proof.Machine.execD24_2pos s
  | .d25_2neg => Sys2Proof.Machine.execD25_2neg s
  | .d25_2pos => Sys2Proof.Machine.execD25_2pos s
  | .d26_2neg => Sys2Proof.Machine.execD26_2neg s
  | .d26_2pos => Sys2Proof.Machine.execD26_2pos s
  | .d27_2neg => Sys2Proof.Machine.execD27_2neg s
  | .d27_2pos => Sys2Proof.Machine.execD27_2pos s
  | .d28_2neg => Sys2Proof.Machine.execD28_2neg s
  | .d28_2pos => Sys2Proof.Machine.execD28_2pos s
  | .d29_2neg => Sys2Proof.Machine.execD29_2neg s
  | .d29_2pos => Sys2Proof.Machine.execD29_2pos s
  | .d30_2neg => Sys2Proof.Machine.execD30_2neg s
  | .d30_2pos => Sys2Proof.Machine.execD30_2pos s
  | .d31_2neg => Sys2Proof.Machine.execD31_2neg s
  | .d31_2pos => Sys2Proof.Machine.execD31_2pos s
  | .d0_3neg => Sys2Proof.Machine.execD0_3neg s
  | .d0_3pos => Sys2Proof.Machine.execD0_3pos s
  | .d1_3neg => Sys2Proof.Machine.execD1_3neg s
  | .d1_3pos => Sys2Proof.Machine.execD1_3pos s
  | .d2_3neg => Sys2Proof.Machine.execD2_3neg s
  | .d2_3pos => Sys2Proof.Machine.execD2_3pos s
  | .d3_3neg => Sys2Proof.Machine.execD3_3neg s
  | .d3_3pos => Sys2Proof.Machine.execD3_3pos s
  | .d4_3neg => Sys2Proof.Machine.execD4_3neg s
  | .d4_3pos => Sys2Proof.Machine.execD4_3pos s
  | .d5_3neg => Sys2Proof.Machine.execD5_3neg s
  | .d5_3pos => Sys2Proof.Machine.execD5_3pos s
  | .d6_3neg => Sys2Proof.Machine.execD6_3neg s
  | .d6_3pos => Sys2Proof.Machine.execD6_3pos s
  | .d7_3neg => Sys2Proof.Machine.execD7_3neg s
  | .d7_3pos => Sys2Proof.Machine.execD7_3pos s
  | .d8_3neg => Sys2Proof.Machine.execD8_3neg s
  | .d8_3pos => Sys2Proof.Machine.execD8_3pos s
  | .d9_3neg => Sys2Proof.Machine.execD9_3neg s
  | .d9_3pos => Sys2Proof.Machine.execD9_3pos s
  | .d10_3neg => Sys2Proof.Machine.execD10_3neg s
  | .d10_3pos => Sys2Proof.Machine.execD10_3pos s
  | .d11_3neg => Sys2Proof.Machine.execD11_3neg s
  | .d11_3pos => Sys2Proof.Machine.execD11_3pos s
  | .d12_3neg => Sys2Proof.Machine.execD12_3neg s
  | .d12_3pos => Sys2Proof.Machine.execD12_3pos s
  | .d13_3neg => Sys2Proof.Machine.execD13_3neg s
  | .d13_3pos => Sys2Proof.Machine.execD13_3pos s
  | .d14_3neg => Sys2Proof.Machine.execD14_3neg s
  | .d14_3pos => Sys2Proof.Machine.execD14_3pos s
  | .d15_3neg => Sys2Proof.Machine.execD15_3neg s
  | .d15_3pos => Sys2Proof.Machine.execD15_3pos s
  | .d16_3neg => Sys2Proof.Machine.execD16_3neg s
  | .d16_3pos => Sys2Proof.Machine.execD16_3pos s
  | .d17_3neg => Sys2Proof.Machine.execD17_3neg s
  | .d17_3pos => Sys2Proof.Machine.execD17_3pos s
  | .d18_3neg => Sys2Proof.Machine.execD18_3neg s
  | .d18_3pos => Sys2Proof.Machine.execD18_3pos s
  | .d19_3neg => Sys2Proof.Machine.execD19_3neg s
  | .d19_3pos => Sys2Proof.Machine.execD19_3pos s
  | .d20_3neg => Sys2Proof.Machine.execD20_3neg s
  | .d20_3pos => Sys2Proof.Machine.execD20_3pos s
  | .d21_3neg => Sys2Proof.Machine.execD21_3neg s
  | .d21_3pos => Sys2Proof.Machine.execD21_3pos s
  | .d22_3neg => Sys2Proof.Machine.execD22_3neg s
  | .d22_3pos => Sys2Proof.Machine.execD22_3pos s
  | .d23_3neg => Sys2Proof.Machine.execD23_3neg s
  | .d23_3pos => Sys2Proof.Machine.execD23_3pos s
  | .d24_3neg => Sys2Proof.Machine.execD24_3neg s
  | .d24_3pos => Sys2Proof.Machine.execD24_3pos s
  | .d25_3neg => Sys2Proof.Machine.execD25_3neg s
  | .d25_3pos => Sys2Proof.Machine.execD25_3pos s
  | .d26_3neg => Sys2Proof.Machine.execD26_3neg s
  | .d26_3pos => Sys2Proof.Machine.execD26_3pos s
  | .d27_3neg => Sys2Proof.Machine.execD27_3neg s
  | .d27_3pos => Sys2Proof.Machine.execD27_3pos s
  | .d28_3neg => Sys2Proof.Machine.execD28_3neg s
  | .d28_3pos => Sys2Proof.Machine.execD28_3pos s
  | .d29_3neg => Sys2Proof.Machine.execD29_3neg s
  | .d29_3pos => Sys2Proof.Machine.execD29_3pos s
  | .d30_3neg => Sys2Proof.Machine.execD30_3neg s
  | .d30_3pos => Sys2Proof.Machine.execD30_3pos s
  | .d31_3neg => Sys2Proof.Machine.execD31_3neg s
  | .d31_3pos => Sys2Proof.Machine.execD31_3pos s
  | .d0_4neg => Sys2Proof.Machine.execD0_4neg s
  | .d0_4pos => Sys2Proof.Machine.execD0_4pos s
  | .d1_4neg => Sys2Proof.Machine.execD1_4neg s
  | .d1_4pos => Sys2Proof.Machine.execD1_4pos s
  | .d2_4neg => Sys2Proof.Machine.execD2_4neg s
  | .d2_4pos => Sys2Proof.Machine.execD2_4pos s
  | .d3_4neg => Sys2Proof.Machine.execD3_4neg s
  | .d3_4pos => Sys2Proof.Machine.execD3_4pos s
  | .d4_4neg => Sys2Proof.Machine.execD4_4neg s
  | .d4_4pos => Sys2Proof.Machine.execD4_4pos s
  | .d5_4neg => Sys2Proof.Machine.execD5_4neg s
  | .d5_4pos => Sys2Proof.Machine.execD5_4pos s
  | .d6_4neg => Sys2Proof.Machine.execD6_4neg s
  | .d6_4pos => Sys2Proof.Machine.execD6_4pos s
  | .d7_4neg => Sys2Proof.Machine.execD7_4neg s
  | .d7_4pos => Sys2Proof.Machine.execD7_4pos s
  | .d8_4neg => Sys2Proof.Machine.execD8_4neg s
  | .d8_4pos => Sys2Proof.Machine.execD8_4pos s
  | .d9_4neg => Sys2Proof.Machine.execD9_4neg s
  | .d9_4pos => Sys2Proof.Machine.execD9_4pos s
  | .d10_4neg => Sys2Proof.Machine.execD10_4neg s
  | .d10_4pos => Sys2Proof.Machine.execD10_4pos s
  | .d11_4neg => Sys2Proof.Machine.execD11_4neg s
  | .d11_4pos => Sys2Proof.Machine.execD11_4pos s
  | .d12_4neg => Sys2Proof.Machine.execD12_4neg s
  | .d12_4pos => Sys2Proof.Machine.execD12_4pos s
  | .d13_4neg => Sys2Proof.Machine.execD13_4neg s
  | .d13_4pos => Sys2Proof.Machine.execD13_4pos s
  | .d14_4neg => Sys2Proof.Machine.execD14_4neg s
  | .d14_4pos => Sys2Proof.Machine.execD14_4pos s
  | .d15_4neg => Sys2Proof.Machine.execD15_4neg s
  | .d15_4pos => Sys2Proof.Machine.execD15_4pos s
  | .d16_4neg => Sys2Proof.Machine.execD16_4neg s
  | .d16_4pos => Sys2Proof.Machine.execD16_4pos s
  | .d17_4neg => Sys2Proof.Machine.execD17_4neg s
  | .d17_4pos => Sys2Proof.Machine.execD17_4pos s
  | .d18_4neg => Sys2Proof.Machine.execD18_4neg s
  | .d18_4pos => Sys2Proof.Machine.execD18_4pos s
  | .d19_4neg => Sys2Proof.Machine.execD19_4neg s
  | .d19_4pos => Sys2Proof.Machine.execD19_4pos s
  | .d20_4neg => Sys2Proof.Machine.execD20_4neg s
  | .d20_4pos => Sys2Proof.Machine.execD20_4pos s
  | .d21_4neg => Sys2Proof.Machine.execD21_4neg s
  | .d21_4pos => Sys2Proof.Machine.execD21_4pos s
  | .d22_4neg => Sys2Proof.Machine.execD22_4neg s
  | .d22_4pos => Sys2Proof.Machine.execD22_4pos s
  | .d23_4neg => Sys2Proof.Machine.execD23_4neg s
  | .d23_4pos => Sys2Proof.Machine.execD23_4pos s
  | .d24_4neg => Sys2Proof.Machine.execD24_4neg s
  | .d24_4pos => Sys2Proof.Machine.execD24_4pos s
  | .d25_4neg => Sys2Proof.Machine.execD25_4neg s
  | .d25_4pos => Sys2Proof.Machine.execD25_4pos s
  | .d26_4neg => Sys2Proof.Machine.execD26_4neg s
  | .d26_4pos => Sys2Proof.Machine.execD26_4pos s
  | .d27_4neg => Sys2Proof.Machine.execD27_4neg s
  | .d27_4pos => Sys2Proof.Machine.execD27_4pos s
  | .d28_4neg => Sys2Proof.Machine.execD28_4neg s
  | .d28_4pos => Sys2Proof.Machine.execD28_4pos s
  | .d29_4neg => Sys2Proof.Machine.execD29_4neg s
  | .d29_4pos => Sys2Proof.Machine.execD29_4pos s
  | .d30_4neg => Sys2Proof.Machine.execD30_4neg s
  | .d30_4pos => Sys2Proof.Machine.execD30_4pos s
  | .d31_4neg => Sys2Proof.Machine.execD31_4neg s
  | .d31_4pos => Sys2Proof.Machine.execD31_4pos s
  | .d0_5neg => Sys2Proof.Machine.execD0_5neg s
  | .d0_5pos => Sys2Proof.Machine.execD0_5pos s
  | .d1_5neg => Sys2Proof.Machine.execD1_5neg s
  | .d1_5pos => Sys2Proof.Machine.execD1_5pos s
  | .d2_5neg => Sys2Proof.Machine.execD2_5neg s
  | .d2_5pos => Sys2Proof.Machine.execD2_5pos s
  | .d3_5neg => Sys2Proof.Machine.execD3_5neg s
  | .d3_5pos => Sys2Proof.Machine.execD3_5pos s
  | .d4_5neg => Sys2Proof.Machine.execD4_5neg s
  | .d4_5pos => Sys2Proof.Machine.execD4_5pos s
  | .d5_5neg => Sys2Proof.Machine.execD5_5neg s
  | .d5_5pos => Sys2Proof.Machine.execD5_5pos s
  | .d6_5neg => Sys2Proof.Machine.execD6_5neg s
  | .d6_5pos => Sys2Proof.Machine.execD6_5pos s
  | .d7_5neg => Sys2Proof.Machine.execD7_5neg s
  | .d7_5pos => Sys2Proof.Machine.execD7_5pos s
  | .d8_5neg => Sys2Proof.Machine.execD8_5neg s
  | .d8_5pos => Sys2Proof.Machine.execD8_5pos s
  | .d9_5neg => Sys2Proof.Machine.execD9_5neg s
  | .d9_5pos => Sys2Proof.Machine.execD9_5pos s
  | .d10_5neg => Sys2Proof.Machine.execD10_5neg s
  | .d10_5pos => Sys2Proof.Machine.execD10_5pos s
  | .d11_5neg => Sys2Proof.Machine.execD11_5neg s
  | .d11_5pos => Sys2Proof.Machine.execD11_5pos s
  | .d12_5neg => Sys2Proof.Machine.execD12_5neg s
  | .d12_5pos => Sys2Proof.Machine.execD12_5pos s
  | .d13_5neg => Sys2Proof.Machine.execD13_5neg s
  | .d13_5pos => Sys2Proof.Machine.execD13_5pos s
  | .d14_5neg => Sys2Proof.Machine.execD14_5neg s
  | .d14_5pos => Sys2Proof.Machine.execD14_5pos s
  | .d15_5neg => Sys2Proof.Machine.execD15_5neg s
  | .d15_5pos => Sys2Proof.Machine.execD15_5pos s
  | .d16_5neg => Sys2Proof.Machine.execD16_5neg s
  | .d16_5pos => Sys2Proof.Machine.execD16_5pos s
  | .d17_5neg => Sys2Proof.Machine.execD17_5neg s
  | .d17_5pos => Sys2Proof.Machine.execD17_5pos s
  | .d18_5neg => Sys2Proof.Machine.execD18_5neg s
  | .d18_5pos => Sys2Proof.Machine.execD18_5pos s
  | .d19_5neg => Sys2Proof.Machine.execD19_5neg s
  | .d19_5pos => Sys2Proof.Machine.execD19_5pos s
  | .d20_5neg => Sys2Proof.Machine.execD20_5neg s
  | .d20_5pos => Sys2Proof.Machine.execD20_5pos s
  | .d21_5neg => Sys2Proof.Machine.execD21_5neg s
  | .d21_5pos => Sys2Proof.Machine.execD21_5pos s
  | .d22_5neg => Sys2Proof.Machine.execD22_5neg s
  | .d22_5pos => Sys2Proof.Machine.execD22_5pos s
  | .d23_5neg => Sys2Proof.Machine.execD23_5neg s
  | .d23_5pos => Sys2Proof.Machine.execD23_5pos s
  | .d24_5neg => Sys2Proof.Machine.execD24_5neg s
  | .d24_5pos => Sys2Proof.Machine.execD24_5pos s
  | .d25_5neg => Sys2Proof.Machine.execD25_5neg s
  | .d25_5pos => Sys2Proof.Machine.execD25_5pos s
  | .d26_5neg => Sys2Proof.Machine.execD26_5neg s
  | .d26_5pos => Sys2Proof.Machine.execD26_5pos s
  | .d27_5neg => Sys2Proof.Machine.execD27_5neg s
  | .d27_5pos => Sys2Proof.Machine.execD27_5pos s
  | .d28_5neg => Sys2Proof.Machine.execD28_5neg s
  | .d28_5pos => Sys2Proof.Machine.execD28_5pos s
  | .d29_5neg => Sys2Proof.Machine.execD29_5neg s
  | .d29_5pos => Sys2Proof.Machine.execD29_5pos s
  | .d30_5neg => Sys2Proof.Machine.execD30_5neg s
  | .d30_5pos => Sys2Proof.Machine.execD30_5pos s
  | .d31_5neg => Sys2Proof.Machine.execD31_5neg s
  | .d31_5pos => Sys2Proof.Machine.execD31_5pos s
  | .d0_6neg => Sys2Proof.Machine.execD0_6neg s
  | .d0_6pos => Sys2Proof.Machine.execD0_6pos s
  | .d1_6neg => Sys2Proof.Machine.execD1_6neg s
  | .d1_6pos => Sys2Proof.Machine.execD1_6pos s
  | .d2_6neg => Sys2Proof.Machine.execD2_6neg s
  | .d2_6pos => Sys2Proof.Machine.execD2_6pos s
  | .d3_6neg => Sys2Proof.Machine.execD3_6neg s
  | .d3_6pos => Sys2Proof.Machine.execD3_6pos s
  | .d4_6neg => Sys2Proof.Machine.execD4_6neg s
  | .d4_6pos => Sys2Proof.Machine.execD4_6pos s
  | .d5_6neg => Sys2Proof.Machine.execD5_6neg s
  | .d5_6pos => Sys2Proof.Machine.execD5_6pos s
  | .d6_6neg => Sys2Proof.Machine.execD6_6neg s
  | .d6_6pos => Sys2Proof.Machine.execD6_6pos s
  | .d7_6neg => Sys2Proof.Machine.execD7_6neg s
  | .d7_6pos => Sys2Proof.Machine.execD7_6pos s
  | .d8_6neg => Sys2Proof.Machine.execD8_6neg s
  | .d8_6pos => Sys2Proof.Machine.execD8_6pos s
  | .d9_6neg => Sys2Proof.Machine.execD9_6neg s
  | .d9_6pos => Sys2Proof.Machine.execD9_6pos s
  | .d10_6neg => Sys2Proof.Machine.execD10_6neg s
  | .d10_6pos => Sys2Proof.Machine.execD10_6pos s
  | .d11_6neg => Sys2Proof.Machine.execD11_6neg s
  | .d11_6pos => Sys2Proof.Machine.execD11_6pos s
  | .d12_6neg => Sys2Proof.Machine.execD12_6neg s
  | .d12_6pos => Sys2Proof.Machine.execD12_6pos s
  | .d13_6neg => Sys2Proof.Machine.execD13_6neg s
  | .d13_6pos => Sys2Proof.Machine.execD13_6pos s
  | .d14_6neg => Sys2Proof.Machine.execD14_6neg s
  | .d14_6pos => Sys2Proof.Machine.execD14_6pos s
  | .d15_6neg => Sys2Proof.Machine.execD15_6neg s
  | .d15_6pos => Sys2Proof.Machine.execD15_6pos s
  | .d16_6neg => Sys2Proof.Machine.execD16_6neg s
  | .d16_6pos => Sys2Proof.Machine.execD16_6pos s
  | .d17_6neg => Sys2Proof.Machine.execD17_6neg s
  | .d17_6pos => Sys2Proof.Machine.execD17_6pos s
  | .d18_6neg => Sys2Proof.Machine.execD18_6neg s
  | .d18_6pos => Sys2Proof.Machine.execD18_6pos s
  | .d19_6neg => Sys2Proof.Machine.execD19_6neg s
  | .d19_6pos => Sys2Proof.Machine.execD19_6pos s
  | .d20_6neg => Sys2Proof.Machine.execD20_6neg s
  | .d20_6pos => Sys2Proof.Machine.execD20_6pos s
  | .d21_6neg => Sys2Proof.Machine.execD21_6neg s
  | .d21_6pos => Sys2Proof.Machine.execD21_6pos s
  | .d22_6neg => Sys2Proof.Machine.execD22_6neg s
  | .d22_6pos => Sys2Proof.Machine.execD22_6pos s
  | .d23_6neg => Sys2Proof.Machine.execD23_6neg s
  | .d23_6pos => Sys2Proof.Machine.execD23_6pos s
  | .d24_6neg => Sys2Proof.Machine.execD24_6neg s
  | .d24_6pos => Sys2Proof.Machine.execD24_6pos s
  | .d25_6neg => Sys2Proof.Machine.execD25_6neg s
  | .d25_6pos => Sys2Proof.Machine.execD25_6pos s
  | .d26_6neg => Sys2Proof.Machine.execD26_6neg s
  | .d26_6pos => Sys2Proof.Machine.execD26_6pos s
  | .d27_6neg => Sys2Proof.Machine.execD27_6neg s
  | .d27_6pos => Sys2Proof.Machine.execD27_6pos s
  | .d28_6neg => Sys2Proof.Machine.execD28_6neg s
  | .d28_6pos => Sys2Proof.Machine.execD28_6pos s
  | .d29_6neg => Sys2Proof.Machine.execD29_6neg s
  | .d29_6pos => Sys2Proof.Machine.execD29_6pos s
  | .d30_6neg => Sys2Proof.Machine.execD30_6neg s
  | .d30_6pos => Sys2Proof.Machine.execD30_6pos s
  | .d31_6neg => Sys2Proof.Machine.execD31_6neg s
  | .d31_6pos => Sys2Proof.Machine.execD31_6pos s
  | .d0_7neg => Sys2Proof.Machine.execD0_7neg s
  | .d0_7pos => Sys2Proof.Machine.execD0_7pos s
  | .d1_7neg => Sys2Proof.Machine.execD1_7neg s
  | .d1_7pos => Sys2Proof.Machine.execD1_7pos s
  | .d2_7neg => Sys2Proof.Machine.execD2_7neg s
  | .d2_7pos => Sys2Proof.Machine.execD2_7pos s
  | .d3_7neg => Sys2Proof.Machine.execD3_7neg s
  | .d3_7pos => Sys2Proof.Machine.execD3_7pos s
  | .d4_7neg => Sys2Proof.Machine.execD4_7neg s
  | .d4_7pos => Sys2Proof.Machine.execD4_7pos s
  | .d5_7neg => Sys2Proof.Machine.execD5_7neg s
  | .d5_7pos => Sys2Proof.Machine.execD5_7pos s
  | .d6_7neg => Sys2Proof.Machine.execD6_7neg s
  | .d6_7pos => Sys2Proof.Machine.execD6_7pos s
  | .d7_7neg => Sys2Proof.Machine.execD7_7neg s
  | .d7_7pos => Sys2Proof.Machine.execD7_7pos s
  | .d8_7neg => Sys2Proof.Machine.execD8_7neg s
  | .d8_7pos => Sys2Proof.Machine.execD8_7pos s
  | .d9_7neg => Sys2Proof.Machine.execD9_7neg s
  | .d9_7pos => Sys2Proof.Machine.execD9_7pos s
  | .d10_7neg => Sys2Proof.Machine.execD10_7neg s
  | .d10_7pos => Sys2Proof.Machine.execD10_7pos s
  | .d11_7neg => Sys2Proof.Machine.execD11_7neg s
  | .d11_7pos => Sys2Proof.Machine.execD11_7pos s
  | .d12_7neg => Sys2Proof.Machine.execD12_7neg s
  | .d12_7pos => Sys2Proof.Machine.execD12_7pos s
  | .d13_7neg => Sys2Proof.Machine.execD13_7neg s
  | .d13_7pos => Sys2Proof.Machine.execD13_7pos s
  | .d14_7neg => Sys2Proof.Machine.execD14_7neg s
  | .d14_7pos => Sys2Proof.Machine.execD14_7pos s
  | .d15_7neg => Sys2Proof.Machine.execD15_7neg s
  | .d15_7pos => Sys2Proof.Machine.execD15_7pos s
  | .d16_7neg => Sys2Proof.Machine.execD16_7neg s
  | .d16_7pos => Sys2Proof.Machine.execD16_7pos s
  | .d17_7neg => Sys2Proof.Machine.execD17_7neg s
  | .d17_7pos => Sys2Proof.Machine.execD17_7pos s
  | .d18_7neg => Sys2Proof.Machine.execD18_7neg s
  | .d18_7pos => Sys2Proof.Machine.execD18_7pos s
  | .d19_7neg => Sys2Proof.Machine.execD19_7neg s
  | .d19_7pos => Sys2Proof.Machine.execD19_7pos s
  | .d20_7neg => Sys2Proof.Machine.execD20_7neg s
  | .d20_7pos => Sys2Proof.Machine.execD20_7pos s
  | .d21_7neg => Sys2Proof.Machine.execD21_7neg s
  | .d21_7pos => Sys2Proof.Machine.execD21_7pos s
  | .d22_7neg => Sys2Proof.Machine.execD22_7neg s
  | .d22_7pos => Sys2Proof.Machine.execD22_7pos s
  | .d23_7neg => Sys2Proof.Machine.execD23_7neg s
  | .d23_7pos => Sys2Proof.Machine.execD23_7pos s
  | .d24_7neg => Sys2Proof.Machine.execD24_7neg s
  | .d24_7pos => Sys2Proof.Machine.execD24_7pos s
  | .d25_7neg => Sys2Proof.Machine.execD25_7neg s
  | .d25_7pos => Sys2Proof.Machine.execD25_7pos s
  | .d26_7neg => Sys2Proof.Machine.execD26_7neg s
  | .d26_7pos => Sys2Proof.Machine.execD26_7pos s
  | .d27_7neg => Sys2Proof.Machine.execD27_7neg s
  | .d27_7pos => Sys2Proof.Machine.execD27_7pos s
  | .d28_7neg => Sys2Proof.Machine.execD28_7neg s
  | .d28_7pos => Sys2Proof.Machine.execD28_7pos s
  | .d29_7neg => Sys2Proof.Machine.execD29_7neg s
  | .d29_7pos => Sys2Proof.Machine.execD29_7pos s
  | .d30_7neg => Sys2Proof.Machine.execD30_7neg s
  | .d30_7pos => Sys2Proof.Machine.execD30_7pos s
  | .d31_7neg => Sys2Proof.Machine.execD31_7neg s
  | .d31_7pos => Sys2Proof.Machine.execD31_7pos s
  | .k28_5neg => Sys2Proof.Machine.execK28_5neg s
  | .k28_5pos => Sys2Proof.Machine.execK28_5pos s
  | .k27_7neg => Sys2Proof.Machine.execK27_7neg s
  | .k27_7pos => Sys2Proof.Machine.execK27_7pos s
  | .invalidGroup rd g => Sys2Proof.Machine.execInvalidGroup rd g s
  | .idleNeg => Sys2Proof.Machine.execIdleNeg s
  | .idlePos => Sys2Proof.Machine.execIdlePos s
  | .sofNeg => Sys2Proof.Machine.execSofNeg s
  | .sofPos => Sys2Proof.Machine.execSofPos s
  | .lineData rd d => Sys2Proof.Machine.execLineData rd d s
  | .lineErr rd w => Sys2Proof.Machine.execLineErr rd w s
  | .msgWrite be addr data => Sys2Proof.Machine.execMsgWrite be addr data s
  | .msgRead be addr data => Sys2Proof.Machine.execMsgRead be addr data s
  | .msgResponse be addr data => Sys2Proof.Machine.execMsgResponse be addr data s
  | .malformedHeader hdr addr data => Sys2Proof.Machine.execMalformedHeader hdr addr data s
  | .csrwControl val => Sys2Proof.Machine.execCsrwControl val s
  | .csrrControl => Sys2Proof.Machine.execCsrrControl s
  | .csrrStatus => Sys2Proof.Machine.execCsrrStatus s
  | .csrwStatus val => Sys2Proof.Machine.execCsrwStatus val s
  | .csrwClear val => Sys2Proof.Machine.execCsrwClear val s
  | .csrrClear => Sys2Proof.Machine.execCsrrClear s
  | .csrrFrameDropCount => Sys2Proof.Machine.execCsrrFrameDropCount s
  | .csrrDecodeErrorCount => Sys2Proof.Machine.execCsrrDecodeErrorCount s
  | .csrwFrameDropCount val => Sys2Proof.Machine.execCsrwFrameDropCount val s
  | .csrwDecodeErrorCount val => Sys2Proof.Machine.execCsrwDecodeErrorCount val s
  | .csrReserved write off val => Sys2Proof.Machine.execCsrReserved write off val s
  | .txnWr addr data be => Sys2Proof.Machine.execTxnWr addr data be s
  | .txnRd addr data be => Sys2Proof.Machine.execTxnRd addr data be s

end Sys2Proof.Machine
end

