-- ==== Sys2Proof/Machine/Schedule.lean ====
section
/-! DEFINITION. The two agents' steps (46_endpoint.md R260, R270, R271): what each action of the schedule does, which
instruction it fetches, and the eager schedule that runs where the schedule names nothing. -/

namespace Sys2Proof.Machine

/-- The first enabled bus step, in the order of items 1 to 5 of R270 (R271). -/
def enabledBusStep (s : State) : Option Action :=
  if packetizerEnabled s then some .packetizer
  else if (acceptable s).isSome then some .accept
  else if depacketizerEnabled s then some .depacketizer
  else if (takeable s).isSome then some .receive
  else if cycleOutstanding s then some (.busDone none)
  else none

/-- The eager schedule for one endpoint: bus steps until none is enabled, then a line tick on the inputs as they stand
(R271). -/
def nextAction (s : State) : Action :=
  (enabledBusStep s).getD (.tick s.ports.rawIn s.ports.phyReadyIn s.ports.rxIdleIn)

/-- A line tick outside RESET fetches the aligned word of its window (R261 steps 0 and 2). -/
def fetchTick (raw : LineWord) (phyReady rxIdle : Bool) (s : State) : Option (Instr × State) :=
  let t := sampleInputs raw phyReady rxIdle s
  if t.line.linkState = .reset then none else some (decodeLine t.line.decRd (fetchedWord t), t)

/-- The requester's step fetches the transaction it accepts (45_bustunnel.md R236). -/
def fetchTxn (s : State) : Option (Instr × State) :=
  (acceptable s).map fun t => (decodeTxn t.we t.addr t.data t.be, s)

/-- The Depacketizer fetches a frame whose header is malformed, as it takes its CRC word (44_framer.md R217). -/
def fetchMalformed (s : State) : Option (Instr × State) :=
  (malformedNext s).map fun f => (decodeHeader f.1 f.2.1 f.2.2, dequeueRx s)

/-- The tunnel fetches the message it takes from `held` (45_bustunnel.md R239, R241). -/
def fetchMessage (s : State) : Option (Instr × State) :=
  match takeable s with
  | some m =>
    if legalHeader (headerWord m.mtype m.be) then some (decodeHeader (headerWord m.mtype m.be) m.addr m.data, s)
    else none
  | none => none

/-- The instruction an action fetches, with the state its meaning runs in. -/
def fetch (a : Action) (s : State) : Option (Instr × State) :=
  match a with
  | .tick raw phyReady rxIdle => fetchTick raw phyReady rxIdle s
  | .accept => fetchTxn s
  | .depacketizer => fetchMalformed s
  | .receive => fetchMessage s
  | .hostRead off => some (decodeRead off, s)
  | .hostWrite off val => some (decodeWrite off val, s)
  | .group g => some (decodeGroup s.line.decRd g, s)
  | .rst => none
  | .packetizer => none
  | .busDone _ => none
  | .present _ => none
  | .encode _ _ => none
  | .otherMaster _ _ _ => none

/-- One `Encode` on the transmit side (40_linecodec.md R118): outside the alphabet it is a Fault. -/
def encodeStep (k : Bool) (v : Byte) (s : State) : Result :=
  match encodeGroup k v s.line.encRd with
  | some (g, rd) => .next ((s.putLine { s.line with encRd := rd }).putPorts { s.ports with encGroup := g })
  | none => .fault (.encodeOutsideAlphabet k v)

/-- What an action does where it fetches no instruction. A bus step that is not enabled does nothing (R270). -/
def unfetched (a : Action) (s : State) : Result :=
  match a with
  | .rst => .next (powerUpReset s)
  | .tick raw phyReady rxIdle => .next (resetTick (sampleInputs raw phyReady rxIdle s))
  | .packetizer => .next (packetizerStep s)
  | .accept => .next s
  | .depacketizer => .next (depacketizerStep s)
  | .receive => .next (match takeable s with | some m => tunnelReceive m s | none => s)
  | .busDone v => .next (completerBusDone v s)
  | .hostRead _ => .next s
  | .hostWrite _ _ => .next s
  | .present txn => .next (presentTxn txn s)
  | .group _ => .next s
  | .encode k v => encodeStep k v s
  | .otherMaster addr be data => .next (s.putMem (memWrite s.mem addr be data))

/-- One atomic step of an agent or of the environment (R260, R270): the instruction it fetches is run. -/
def perform (a : Action) (s : State) : Result :=
  match fetch a s with
  | some f => exec f.1 f.2
  | none => unfetched a s

/-- An atomic step of a machine that is not corrupted: a reserved code held in `cause` is a Fault, whatever the step
(60_exceptions.md R301, R316; log entry 12). -/
def takeStep (a : Action) (s : State) : Result :=
  if 8 ≤ s.regs.cause.toNat then .fault (.reservedCause s.regs.cause) else perform a s

/-- The state in which the unit `img` is what the action put first in the schedule fetches (log entry 6). -/
def placeImage (img : Image) (s : State) : State :=
  match img with
  | .group rd g => (s.putLine { s.line with decRd := rd }).putAgenda (.group g :: s.agenda)
  | .line rd w =>
    let r := s.line.alignOffset.val
    (s.putLine { s.line with
      linkState := if s.line.linkState = .reset then .sendTraining else s.line.linkState,
      decRd := rd, rxPrev := w <<< r }).putAgenda
      (.tick (w >>> (40 - r)) s.ports.phyReadyIn s.ports.rxIdleIn :: s.agenda)
  | .header hdr addr data =>
    if legalHeader hdr then
      { s with cfg := { s.cfg with role := if headerType hdr = typeResponse then .master else .slave },
               bus := { s.bus with held := some (decodeMsg hdr addr data), compOp := .idle, pktWords := [] },
               agenda := .receive :: s.agenda }
    else
      { s with bus := { s.bus with held := none, depState := .collect, depBuf := [hdr, addr, data] },
               bridge := { s.bridge with rxq := .data (crc32 [hdr, addr, data]) :: s.bridge.rxq },
               agenda := .depacketizer :: s.agenda }
  | .readAccess off => s.putAgenda (.hostRead off :: s.agenda)
  | .writeAccess off val => s.putAgenda (.hostWrite off val :: s.agenda)
  | .txn we addr data be =>
    { s with cfg := { s.cfg with role := .master },
             line := { s.line with linkState := .ready },
             bus := { s.bus with reqState := .idle, pktWords := [] },
             ports := { s.ports with txnIn := some { we := we, addr := addr, data := data, be := be } },
             agenda := .accept :: s.agenda }

end Sys2Proof.Machine
end

