-- ==== Sys2Proof/Machine/Step.lean ====
section
/-! DEFINITION. One step of the machine. -/

namespace Sys2Proof.Machine

/-- One step: the next action of the schedule, or of the eager schedule where none is named (46_endpoint.md R270, R271).
An illegal build is refused, and a corrupted cause is a Fault (60_exceptions.md R316). -/
def step (s : State) : Host.Outcome State Fault Refusal :=
  if s.cfg.legal then
    match s.agenda with
    | [] => takeStep (nextAction s) s
    | a :: rest => takeStep a (s.putAgenda rest)
  else .refused .illegalBuild

/-- The state whose next step fetches and runs the instruction with these bits (log entry 6). -/
def State.withFetchWord (s : State) (nbits w : Nat) : State :=
  match tableImage nbits w with
  | some img => placeImage img s
  | none => s

end Sys2Proof.Machine
end

