-- ==== Sys2Proof/Machine/Link.lean ====
section
/-! DEFINITION. The composition of two endpoints (46_endpoint.md R275 to R277): the channels, the composition's tick, with
the bus steps and the environment's draws of its own schedule or the eager one (R271, R273), and the program statements of
30_encoding.md R97. The composition names its endpoints' steps one by one, so their own schedules are not used. -/

namespace Sys2Proof.Machine

/-- The two endpoints of a link: A is the master, B the slave (R276). -/
inductive EndpointName
  | a
  | b
  deriving DecidableEq, Repr

/-- One direction of the link: a delay line of `delay` bits (R275). `line` holds the `delay + 40` bits in it, the next to
arrive at bit 0; its initial value is the channel's unspecified content before the first word sent. -/
structure Channel where
  delay : Nat
  line : Nat
  deriving DecidableEq, Repr

/-- The raw word that arrives in this tick (R275). -/
def Channel.raw (c : Channel) : LineWord := BitVec.ofNat 40 c.line

/-- One tick later, with `tx` sent in this one (R275). -/
def Channel.push (c : Channel) (tx : LineWord) : Channel :=
  { c with line := c.line / 2 ^ 40 + tx.toNat * 2 ^ c.delay }

/-- A statement of a program (30_encoding.md R97). A read binds its value to a numbered name. -/
inductive Stmt
  | wr (addr data : Word) (be : ByteEnable)
  | rd (addr : Word) (be : ByteEnable) (name : Nat)
  | csrw (ep : EndpointName) (off val : Word)
  | csrr (ep : EndpointName) (off : Word) (name : Nat)
  | ticks (n : Nat)
  | untilState (ep : EndpointName) (st : LinkState)
  | flip (ep : EndpointName) (tick : Nat) (mask : LineWord)
  /-- A WR or RD whose transaction is presented and not yet completed (the model's own): `before` completions were given on
  A's bus before it was presented, so its own is the next. -/
  | wait (before : Nat) (name : Option Nat)
  deriving DecidableEq, Repr

/-- What the composition's schedule can name after a tick: the interleaving of the bus steps, and what the environment
draws for them (R270, R271, R273; 93_implementation_defined.md rows 11, 14 and 26). -/
inductive LinkMove
  /-- One bus step of an endpoint, or an act of its local bus or its host. `busDone` with a value draws what a read returns,
  and when it is named is when the bus completes the cycle. -/
  | bus (ep : EndpointName) (a : Action)
  /-- What an endpoint's transport holds on `phy_ready` and `rx_idle` from the next tick on (R262). -/
  | transport (ep : EndpointName) (phyReady rxIdle : Bool)
  /-- The bus steps after this tick are over, whether or not one is enabled. -/
  | endPass
  /-- The bus steps after this tick go on as in the eager schedule, until none is enabled. -/
  | eagerPass
  deriving DecidableEq, Repr

/-- An action is a bus step or an act of a local bus or a host: R270's items 1 to 6, a presented transaction (R273) and
another master's cycle (20_memory.md R74). A line tick and `rst` are the composition's own (R276), and a single `Decode`
or `Encode` is no step of an endpoint in a link. -/
def Action.onBus : Action → Bool
  | .packetizer => true
  | .accept => true
  | .depacketizer => true
  | .receive => true
  | .busDone _ => true
  | .hostRead _ => true
  | .hostWrite _ _ => true
  | .present _ => true
  | .otherMaster _ _ _ => true
  | .rst => false
  | .tick _ _ _ => false
  | .group _ => false
  | .encode _ _ => false

/-- Where the composition is between two ticks (R276). -/
inductive LinkPhase
  /-- The bus steps that follow a tick. -/
  | busSteps
  /-- Between the bus steps and the next tick, where statements run (30_encoding.md R97). -/
  | between
  /-- A has taken its line tick and B has not. -/
  | secondTick
  deriving DecidableEq, Repr

/-- Two endpoints, their channels and a program. -/
structure Link where
  a : State
  b : State
  /-- The channel from A to B, and from B to A. -/
  ab : Channel
  ba : Channel
  phase : LinkPhase
  /-- The last tick both have taken; ticks are numbered from 1 after `rst` (R260). -/
  tick : Nat
  program : List Stmt
  /-- The moves still to be made after ticks, in order; the schedule is the eager one where none is left (R271). -/
  schedule : List LinkMove
  /-- The injected channel errors: endpoint, tick and mask (R97). -/
  flips : List (EndpointName × Nat × LineWord)
  /-- The values bound so far, the last first. -/
  bound : List (Nat × Word)
  /-- How many IDLE words A and B have sent since their last frame word and the last statement; `none` where they have
  sent no frame (R277). -/
  idleA : Option Nat
  idleB : Option Nat
  deriving DecidableEq, Repr

/-- A program's pseudo-statements (30_encoding.md R98). -/
def Stmt.wrWord (addr data : Word) : Stmt := .wr addr data 0xF#4
/-- `RD addr -> name` (R98). -/
def Stmt.rdWord (addr : Word) (name : Nat) : Stmt := .rd addr 0xF#4 name
/-- `BRINGUP` (R98). -/
def Stmt.bringUp : List Stmt := [.untilState .a .ready, .untilState .b .ready]
/-- `LINKRESET ep` (R98). -/
def Stmt.linkReset (ep : EndpointName) : Stmt := .csrw ep 0x00#32 0x1#32

/-- A link of two builds right after `rst`, with the program it is to run and the moves of its schedule, the first of them
before tick 1 (R276, 30_encoding.md R97). -/
def Link.start (cfgA cfgB : Params) (ab ba : Channel) (program : List Stmt) (schedule : List LinkMove) : Link :=
  { a := State.resetOf cfgA, b := State.resetOf cfgB, ab := ab, ba := ba, phase := .busSteps, tick := 0,
    program := program, schedule := schedule, flips := [], bound := [], idleA := none, idleB := none }

/-- What a link's two builds must agree on (00_scope.md R7 to R9; 45_bustunnel.md R235). -/
def Link.matched (l : Link) : Bool :=
  l.a.cfg.legal && l.b.cfg.legal && l.a.cfg.role == .master && l.b.cfg.role == .slave &&
    l.a.cfg.scrSeed == l.b.cfg.scrSeed

/-- An endpoint of the link. -/
def Link.get (l : Link) : EndpointName → State
  | .a => l.a
  | .b => l.b

/-- Replace an endpoint of the link. -/
def Link.put (l : Link) (ep : EndpointName) (s : State) : Link :=
  match ep with
  | .a => { l with a := s }
  | .b => { l with b := s }

/-- The channel errors injected into an endpoint's raw word of a tick (R97, R275). -/
def Link.errors (l : Link) (ep : EndpointName) (n : Nat) : LineWord :=
  l.flips.foldl (fun m f => if f.1 = ep ∧ f.2.1 = n then m ^^^ f.2.2 else m) 0

/-- The outcome of a step of the composition. -/
abbrev LinkResult := Host.Outcome Link Fault Refusal

/-- One action of one endpoint. A Fault of an endpoint is the composition's (60_exceptions.md R316). -/
def Link.act (l : Link) (ep : EndpointName) (a : Action) (after : Link → Link) : LinkResult :=
  match takeStep a (l.get ep) with
  | .next s => .next (after (l.put ep s))
  | .fault f => .fault f
  | .refused r => .refused r

/-- The line tick of one endpoint, on its channel's raw word with the injected errors (R276 step 1). -/
def Link.lineTick (l : Link) (ep : EndpointName) (after : Link → Link) : LinkResult :=
  let raw := match ep with
    | .a => l.ba.raw
    | .b => l.ab.raw
  let s := l.get ep
  l.act ep (.tick (raw ^^^ l.errors ep (l.tick + 1)) s.ports.phyReadyIn s.ports.rxIdleIn) after

/-- Both endpoints have taken their tick: the words they sent enter the channels. -/
def Link.exchange (l : Link) : Link :=
  { l with
    ab := l.ab.push l.a.ports.tx, ba := l.ba.push l.b.ports.tx, tick := l.tick + 1, phase := .busSteps,
    idleA := if l.a.line.txLastIdle then l.idleA.map (· + 1) else some 0,
    idleB := if l.b.line.txLastIdle then l.idleB.map (· + 1) else some 0 }

/-- Begin the composition's next tick. -/
def Link.beginTick (l : Link) (program : List Stmt) : LinkResult :=
  { l with program := program }.lineTick .a (fun n => { n with phase := .secondTick })

/-- The values of the completions on an endpoint's bus, in order (45_bustunnel.md R240). -/
def completions (s : State) : List Word :=
  s.busLog.filterMap fun b => match b with
    | .complete _ x => some x
    | .memWrite _ _ _ => none
    | .memRead _ _ => none

/-- Bind a value. -/
def Link.bind (l : Link) (name : Nat) (v : Word) : Link := { l with bound := (name, v) :: l.bound }

/-- A statement has ended: go on with the rest (R97), and count IDLE words anew (R277). -/
def Link.popTo (l : Link) (rest : List Stmt) : Link :=
  { l with program := rest, idleA := l.idleA.map (fun _ => 0), idleB := l.idleB.map (fun _ => 0) }

/-- Present a transaction on A's bus and wait for it (R97). Where the schedule has presented another that is still there, the
statement waits, tick by tick, until the bus is free: the bus holds at most one (45_bustunnel.md R236), and the spec gives no
program beside scheduled transactions (DESIGN CHOICE, log entry 16). -/
def Link.presentOnA (l : Link) (txn : BusTxn) (name : Option Nat) (rest : List Stmt) : LinkResult :=
  if l.a.ports.txnIn.isSome then l.beginTick l.program
  else { l with program := .wait (completions l.a).length name :: rest }.act .a (.present txn) id

/-- A WR or RD ends, and an RD binds its value, with the completion of its own transaction, whatever the schedule presents
after it (R97; log entry 16). -/
def Link.awaitOnA (l : Link) (before : Nat) (name : Option Nat) (rest : List Stmt) : LinkResult :=
  match (completions l.a)[before]?, name with
  | none, _ => l.beginTick l.program
  | some _, none => .next (l.popTo rest)
  | some v, some n => .next ((l.popTo rest).bind n v)

/-- Run the next statement, or a tick where it needs one or there is none (R97). -/
def Link.runStatement (l : Link) : LinkResult :=
  match l.program with
  | [] => l.beginTick []
  | .wr addr data be :: rest => l.presentOnA { we := true, addr := addr, data := data, be := be } none rest
  | .rd addr be name :: rest => l.presentOnA { we := false, addr := addr, data := 0, be := be } (some name) rest
  | .wait before name :: rest => l.awaitOnA before name rest
  | .csrw ep off val :: rest => (l.popTo rest).act ep (.hostWrite off val) id
  | .csrr ep off name :: rest =>
    (l.popTo rest).act ep (.hostRead off) (fun n => n.bind name (n.get ep).ports.hostValue)
  | .ticks 0 :: rest => .next (l.popTo rest)
  | .ticks (n + 1) :: rest => l.beginTick (.ticks n :: rest)
  | .untilState ep st :: rest =>
    if (l.get ep).line.linkState = st then .next (l.popTo rest) else l.beginTick l.program
  | .flip ep n mask :: rest => .next { l.popTo rest with flips := (ep, n, mask) :: l.flips }

/-- The eager schedule's bus steps after a tick: A's until none is enabled, then B's (R271). `passed` is the
composition where the pass is over. -/
def Link.eagerStep (l passed : Link) : LinkResult :=
  match enabledBusStep l.a, enabledBusStep l.b with
  | some x, _ => l.act .a x id
  | none, some x => l.act .b x id
  | none, none => .next { passed with phase := .between }

/-- An endpoint whose transport holds these status inputs (R262). -/
def holdTransport (phyReady rxIdle : Bool) (s : State) : State :=
  s.putPorts { s.ports with phyReadyIn := phyReady, rxIdleIn := rxIdle }

/-- A move after a tick: the next of the schedule, or the eager schedule's where none is left (R270, R271). A move that
names no bus step changes nothing. -/
def Link.runBusStep (l : Link) : LinkResult :=
  match l.schedule with
  | [] => l.eagerStep l
  | .bus ep a :: rest =>
    if a.onBus then { l with schedule := rest }.act ep a id else .next { l with schedule := rest }
  | .transport ep phyReady rxIdle :: rest =>
    .next ({ l with schedule := rest }.put ep (holdTransport phyReady rxIdle (l.get ep)))
  | .endPass :: rest => .next { l with schedule := rest, phase := .between }
  | .eagerPass :: rest => l.eagerStep { l with schedule := rest }

/-- One step of the composition (R276). A link whose builds do not match is refused (60_exceptions.md R316). -/
def linkStep (l : Link) : LinkResult :=
  if l.matched then
    match l.phase with
    | .busSteps => l.runBusStep
    | .between => l.runStatement
    | .secondTick => l.lineTick .b Link.exchange
  else .refused .mismatchedLink

/-- The frames one endpoint holds are all on their way (R277). -/
def drained (s : State) : Bool :=
  s.bridge.txq.isEmpty && s.bridge.rxq.isEmpty && s.bus.pktWords.isEmpty && s.bus.held.isNone

/-- An endpoint's last frame has had the ticks it needs to arrive over a channel (R277; 41_bitaligner.md R151). -/
def settled (idle : Option Nat) (c : Channel) : Bool :=
  match idle with
  | none => true
  | some n => decide (3 + c.delay / 40 ≤ n)

/-- Quiescence (R277): no bus step enabled, nothing queued, and both have sent one IDLE word and the ticks that the
channel needs after it. -/
def Link.quiescent (l : Link) : Bool :=
  (enabledBusStep l.a).isNone && (enabledBusStep l.b).isNone && drained l.a && drained l.b &&
    settled l.idleA l.ab && settled l.idleB l.ba

/-- A link's program has ended (R277). -/
def Link.ended (l : Link) : Bool := l.program.isEmpty && l.phase == .between && l.quiescent

/-- `k` steps of the composition, stopping where its program has ended. -/
def Link.run : Nat → Link → LinkResult
  | 0, l => .next l
  | k + 1, l =>
    if l.ended then .next l
    else match linkStep l with
      | .next n => Link.run k n
      | .fault f => .fault f
      | .refused r => .refused r

end Sys2Proof.Machine
end

