-- ==== Sys2Proof/Safety.lean ====
section
/-! DEFINITION. The terms in which statements speak of safe states: the bounds the spec gives each counter and buffer,
how the parts of the BusTunnel's state fit together, and the units that the rows of the opcode table stand for. -/

namespace Sys2Proof.Machine

/-! ### Bounds -/

/-- How many ticks a timed state lasts (42_linktrainer.md R164 to R166); the other states do not use the timer (R161). -/
def timeLimit (cfg : Params) : LinkState → Option Nat
  | .sendTraining => some cfg.txDwell
  | .waitAlign => some cfg.alignTimeout
  | .aligned => some cfg.confirmWindow
  | .reset => none
  | .ready => none
  | .error => none

/-- The ranges the spec gives the line-domain counters (10_state.md R31, R32, R38, R39), and that lock holds in ALIGNED
and READY (41_bitaligner.md R147). -/
structure LineBounds (cfg : Params) (l : Line) : Prop where
  timer : l.timer.toNat ≤ max cfg.txDwell (max cfg.alignTimeout cfg.confirmWindow)
  timed : ∀ n, timeLimit cfg l.linkState = some n → l.timer.toNat < n
  errCount : l.errCount.toNat ≤ cfg.errThreshold
  tolerated : l.linkState = .ready → l.errCount.toNat < cfg.errThreshold
  commaRun : l.commaRun.toNat ≤ cfg.lockCount
  unlocked : l.lock = false → l.commaRun.toNat < cfg.lockCount
  driftRun : l.driftRun.toNat < cfg.lockCount
  slipCount : l.slipCount.toNat ≤ cfg.slipLimit
  locked : l.linkState = .aligned ∨ l.linkState = .ready → l.lock = true

/-- The capacities of the queues and buffers (10_state.md R42 to R45), and that a message kept in `held` has a legal TYPE
(44_framer.md R217). -/
structure BufferBounds (s : State) : Prop where
  txq : s.bridge.txq.length ≤ s.cfg.txqDepth
  rxq : s.bridge.rxq.length ≤ s.cfg.rxqDepth
  pktWords : s.bus.pktWords.length ≤ 5
  depBuf : s.bus.depBuf.length ≤ 3
  hunting : s.bus.depState = .hunt → s.bus.depBuf = []
  held : ∀ m, s.bus.held = some m → m.mtype = typeWrite ∨ m.mtype = typeRead ∨ m.mtype = typeResponse
  lanes : s.rx.lanes.length ≤ 4

/-- The bounds that every step keeps: those of the line domain and of the buffers, no reserved cause code
(60_exceptions.md R301), and the memory in its canonical form. -/
structure Bounds (s : State) : Prop where
  line : LineBounds s.cfg s.line
  buffers : BufferBounds s
  cause : s.regs.cause.toNat < 8
  memory : Memory.wf s.mem = true

/-! ### The tunnel's state -/

/-- The requester's state fits together (45_bustunnel.md R236 to R239): its transaction, pending read and frame are those
of `req_state`, its transaction is the one the local bus holds, and it has no completer. -/
structure RequesterCoherent (b : Bus) (presented : Option BusTxn) : Prop where
  idle : b.reqState = .idle → b.curTxn = none ∧ b.pendingRead = none
  writing : b.reqState = .writing →
    b.pktWords ≠ [] ∧ b.pendingRead = none ∧ ∃ t, b.curTxn = some t ∧ t.we = true
  reading : b.reqState = .reading → ∃ t, b.curTxn = some t ∧ t.we = false ∧ b.pendingRead = some t.addr
  ack : b.pktAck = true ↔ b.reqState = .writing
  presented : ∀ t, b.curTxn = some t → presented = some t
  noCompleter : b.compOp = .idle

/-- The completer's state fits together (45_bustunnel.md R241 to R243): a frame is being sent exactly in RESPOND, and it
has no requester. -/
structure CompleterCoherent (b : Bus) : Prop where
  respond : b.pktWords ≠ [] ↔ b.compOp = .respond
  noAck : b.pktAck = false
  noRequester : b.reqState = .idle ∧ b.curTxn = none ∧ b.pendingRead = none

/-- The tunnel's state fits the endpoint's role (45_bustunnel.md R235; 10_state.md R47, R48). -/
def Coherent (s : State) : Prop :=
  match s.cfg.role with
  | .master => RequesterCoherent s.bus s.ports.txnIn
  | .slave => CompleterCoherent s.bus

/-! ### Runs -/

/-- The machine goes on: its step is neither a fault nor a refusal. -/
def goesOn (s : State) : Prop := ∃ t, step s = .next t

/-- No step of `s` is a fault (60_exceptions.md R316). -/
def neverFaults (s : State) : Prop := ∀ f, step s ≠ .fault f

/-! ### The rows of the opcode table -/

/-- The line word of a line-word row (30_encoding.md R82, R83, R93). -/
def lineWordOf (i : Instr) : Option LineWord :=
  match i.image with
  | .line _ w => some w
  | _ => none

/-- The code group of a code-group row, with the receive RD it is listed under (30_encoding.md R91). -/
def codeGroupOf (i : Instr) : Option (RD × Group) :=
  match i.image with
  | .group rd g => some (rd, g)
  | _ => none

/-- The message of a message row (30_encoding.md R86). -/
def messageOf : Instr → Option Message
  | .msgWrite be addr data => some { mtype := 0x01#8, be := be, addr := addr, data := data }
  | .msgRead be addr data => some { mtype := 0x02#8, be := be, addr := addr, data := data }
  | .msgResponse be addr data => some { mtype := 0x03#8, be := be, addr := addr, data := data }
  | _ => none

/-- The class of a line word that arrives in this state (40_linecodec.md R122, R123). -/
def classHere (w : LineWord) (s : State) : WordClass := classify (decodeWord w s.line.decRd).1

/-- From `s` to `t` the transmit path sent `word`, with the scrambler left at `scr` and the transmit queue at `q`
(46_endpoint.md R263). -/
structure Sent (s t : State) (word : TxWord) (scr : BitVec 23) (q : List TxEntry) : Prop where
  tx : t.ports.tx = (encodeWord word s.line.encRd).1
  encRd : t.line.encRd = (encodeWord word s.line.encRd).2
  scrState : t.line.scrState = scr
  txq : t.bridge.txq = q
  txLastIdle : t.line.txLastIdle = true ↔ word = .idle

/-- From `s` to `t` the entry `e` was delivered, or lost to a full queue (46_endpoint.md R264, R265). -/
structure Delivered (s t : State) (e : RxEntry) : Prop where
  room : s.bridge.rxq.length < s.cfg.rxqDepth →
    t.bridge.rxq = s.bridge.rxq ++ [e] ∧ t.regs.rxOverflow = s.regs.rxOverflow ∧
      t.events.count .rxOverflow = s.events.count .rxOverflow
  full : s.cfg.rxqDepth ≤ s.bridge.rxq.length →
    t.bridge.rxq = s.bridge.rxq ∧ t.regs.rxOverflow = true ∧
      t.events.count .rxOverflow = s.events.count .rxOverflow + 1

/-- The event of a code violation, where the word `w` is one in `s` (46_endpoint.md R261 step 6; 60_exceptions.md R300). -/
def violationEvents (w : LineWord) (s : State) : List Event :=
  if (s.line.linkState = .aligned ∨ s.line.linkState = .ready) ∧ classHere w s = .err then [.codeViolation] else []

/-- The event of a receive overflow, where the word `w` delivers an entry to a full queue (46_endpoint.md R264, R265). -/
def overflowEvents (w : LineWord) (s : State) : List Event :=
  if s.line.linkState = .ready ∧ classHere w s ≠ .idle ∧ s.cfg.rxqDepth ≤ s.bridge.rxq.length then [.rxOverflow] else []

/-- How many hunting ticks without a comma end in ERROR (42_linktrainer.md R174). -/
def failureTicks (cfg : Params) : Nat := min cfg.slipLimit (cfg.txDwell + cfg.alignTimeout)

/-- The cause of that ERROR: the limit met first, the aligner's where both are met (42_linktrainer.md R164, R165, R174). -/
def failureCause (cfg : Params) : BitVec 4 := if cfg.slipLimit ≤ cfg.txDwell + cfg.alignTimeout then 4 else 3

/-- The endpoint has hunted for `n` ticks without a comma and has not failed yet (42_linktrainer.md R164, R165, R174). -/
structure Searching (s : State) (n : Nat) : Prop where
  unlocked : s.line.lock = false
  slipped : s.line.slipCount.toNat = n
  early : n < failureTicks s.cfg
  waiting : (s.line.linkState = .sendTraining ∧ s.line.timer.toNat = n ∧ n < s.cfg.txDwell) ∨
    (s.line.linkState = .waitAlign ∧ s.cfg.txDwell + s.line.timer.toNat = n)

/-- The entry a stream word arrives as, where nothing is lost on the line (30_encoding.md R83). -/
def receivedAs : TxEntry → RxEntry
  | .sof => .sof
  | .data d => .data d

/-! ### Bits on the line -/

/-- The bits of a line word, the first sent first (00_scope.md R11). -/
def lineBits (w : LineWord) : List Bool := (List.range 40).map w.getLsbD

/-- The line words of a sequence of words from `EncodeWord`, chained from `rd` (40_linecodec.md R120). -/
def encodeStream : List TxWord → RD → List LineWord
  | [], _ => []
  | word :: rest, rd => (encodeWord word rd).1 :: encodeStream rest (encodeWord word rd).2

/-- The bits of a sequence of line words. -/
def streamBits (ws : List LineWord) : List Bool := ws.flatMap lineBits

/-- Ones sent less zeros sent (40_linecodec.md R110). -/
def runningSum (bs : List Bool) : Int := (bs.map fun b => if b then (1 : Int) else -1).sum

/-- The running sum where the running disparity is `rd` (40_linecodec.md R110). -/
def sumAt : RD → Int
  | .neg => 0
  | .pos => 2

/-- The 10 bits of a stream from bit `p` on, as a group. -/
def groupAt (bs : List Bool) (p : Nat) : List Bool := (bs.drop p).take 10

/-- The bits of a group, the first sent first (30_encoding.md R80). -/
def groupBits (g : Group) : List Bool := (List.range 10).map g.getLsbD

/-! ### Words over a channel -/

/-- The raw words that arrive over a channel in the ticks in which `sent` is sent, the first first (46_endpoint.md R275). -/
def rawWords : Channel → List LineWord → List LineWord
  | _, [] => []
  | c, w :: rest => c.raw :: rawWords (c.push w) rest

/-- Chain `Scramble` over a sequence of words (43_scrambler.md R197). -/
def scrambleAll : BitVec 23 → List Word → List Word
  | _, [] => []
  | st, x :: xs => (scramble st x).1 :: scrambleAll (scramble st x).2 xs

/-- Chain `Descramble` over a sequence of words (43_scrambler.md R197). -/
def descrambleAll : BitVec 23 → List Word → List Word
  | _, [] => []
  | st, x :: xs => (descramble st x).1 :: descrambleAll (descramble st x).2 xs

end Sys2Proof.Machine
end

