-- ==== Sys2Proof/Certificates/Slice0/Obligations.lean ====
section
/-! DEFINITION. The statements for the provers, in the order of spec/: the codes, the line tick, the messages, the
registers, the local bus, the whole machine, the two-endpoint link. -/

section Statements

open Sys2Proof Sys2Proof.Machine

/-! ### Encodings and the LineCodec -/

/-- Decoding the encoding of a well-formed instruction gives it back, and the bytes that follow it: every row of the five
formats of 30_encoding.md R91, with every operand. -/
def Obligations.DecodeEncodeAgree : Prop :=
  ∀ (i : Instr) (rest : List Byte), i.wf = true →
    decode i.image.format i.image.rd (encode i ++ rest) = .ok (i, rest)

/-- Every unit of the five formats decodes to a well-formed row whose bits are that unit's (30_encoding.md R91 to R95):
no encoding falls through to a neighbour. -/
def Obligations.DecodedUnitHasItsBits : Prop :=
  ∀ img : Image, (decodeImage img).wf = true ∧ (decodeImage img).image = img

/-- Words written out from the spec's encodings decode to their rows: K28.5 and D3.3 (40_linecodec.md R121), the four
control words (30_encoding.md R82), a READ header (44_framer.md R207), a register offset (10_state.md R52) and a
local-bus read. The byte layout around the spec's fields is the model's own (log entry 4). -/
def Obligations.WrittenWordsDecode : Prop :=
  (decode .codeGroup .neg [0x7C#8, 0x01#8]).toOption =
    some (.k28_5neg, []) ∧
  (decode .codeGroup .pos [0x7C#8, 0x01#8]).toOption =
    some (.invalidGroup .pos 0x17C#10, []) ∧
  (decode .codeGroup .pos [0x23#8, 0x03#8]).toOption =
    some (.d3_3pos, []) ∧
  (decode .lineWord .neg [0x7C#8, 0x19#8, 0x6D#8, 0xB4#8, 0xD1#8]).toOption =
    some (.idleNeg, []) ∧
  (decode .lineWord .pos [0x83#8, 0xE6#8, 0x92#8, 0x4B#8, 0x2E#8]).toOption =
    some (.idlePos, []) ∧
  (decode .lineWord .neg [0x5B#8, 0xE4#8, 0x92#8, 0x4B#8, 0x2E#8]).toOption =
    some (.sofNeg, []) ∧
  (decode .lineWord .pos [0xA4#8, 0x1B#8, 0x6D#8, 0xB4#8, 0xD1#8]).toOption =
    some (.sofPos, []) ∧
  (decode .frameHeader .neg [0x02#8, 0x0F#8, 0#8, 0#8, 0x00#8, 0x02#8, 0#8, 0#8, 0#8, 0#8, 0#8, 0#8]).toOption =
    some (.msgRead 0xF#4 0x200#32 0#32, []) ∧
  (decode .registerAccess .neg [0x04#8, 0#8, 0#8, 0#8, 0#8]).toOption =
    some (.csrrStatus, []) ∧
  (decode .busTxn .neg [0#8, 0x00#8, 0x02#8, 0#8, 0#8, 0#8, 0#8, 0#8, 0#8, 0x0F#8]).toOption =
    some (.txnRd 0x200#32 0#32 0xF#4, [])

/-- `Decode` (40_linecodec.md R119): the RD after a group is always `RdAfter`; a group that `Encode` gives for a member
of the alphabet is that member, any other is Invalid, with the lane value (0, 0). -/
def Obligations.DecodeInvertsEncode : Prop :=
  ∀ (g : Group) (rd : RD),
    (decodeLane g rd).2 = rdAfter g rd ∧
    (∀ sym : Symbol, (encodeSymbol sym rd).1 = g → (decodeLane g rd).1 = .valid sym) ∧
    ((∀ sym : Symbol, (encodeSymbol sym rd).1 ≠ g) → (decodeLane g rd).1 = .invalid) ∧
    LaneResult.invalid.value = (false, 0#8)

/-- The code book: the table of 40_linecodec.md R129 and the control groups of 30_encoding.md R91, as the decoder's rows
hold them, are what `Encode` computes from the tables of R113 to R116 (row n is byte n, then K28.5 and K27.7); under
each RD the 258 groups are distinct and the other 766 of the 1024 groups are Invalid (R117; item 5 of R125). -/
def Obligations.CodeBook : Prop :=
  codeRows.map (fun r => r.1) = alphabet.map (fun sym => ((encodeSymbol sym .neg).1, (encodeSymbol sym .pos).1)) ∧
  alphabet.length = 258 ∧
  ∀ rd : RD,
    (alphabet.map fun sym => (encodeSymbol sym rd).1).Nodup ∧
    (List.range 1024).countP (fun g => (decodeLane (BitVec.ofNat 10 g) rd).1 == .invalid) = 766

/-- A line word decodes to what it was encoded from, under the same running disparity, and both calls return the same RD
(40_linecodec.md R120, R122, R123; item 1 of R125). -/
def Obligations.LineWordRoundTrip : Prop :=
  ∀ (word : TxWord) (rd : RD),
    classify (decodeWord (encodeWord word rd).1 rd).1 =
      (match word with
        | .idle => WordClass.idle
        | .sof => WordClass.sof
        | .data d => WordClass.data d) ∧
    (decodeWord (encodeWord word rd).1 rd).2 = (encodeWord word rd).2

/-- On a stream of words from `EncodeWord` the running sum, which is 0 where the RD is NEG and 2 where it is POS, is 0
or 2 at every sub-block boundary and between -2 and 4 at every bit (40_linecodec.md R110; item 2 of R125). -/
def Obligations.RunningSumBounded : Prop :=
  ∀ (words : List TxWord) (rd : RD) (n : Nat),
    let sum := sumAt rd + runningSum ((streamBits (encodeStream words rd)).take n)
    (-2 ≤ sum ∧ sum ≤ 4) ∧ (n % 10 = 0 ∨ n % 10 = 6 → sum = 0 ∨ sum = 2)

/-- On a stream of words from `EncodeWord` no six bits in a row are equal (item 3 of 40_linecodec.md R125). -/
def Obligations.RunLengthAtMostFive : Prop :=
  ∀ (words : List TxWord) (rd : RD) (p : Nat) (b : Bool),
    ((streamBits (encodeStream words rd)).drop p).take 6 ≠ List.replicate 6 b

/-- On a stream of words from `EncodeWord` the comma patterns 0x17C and 0x283 stand exactly at the start of the IDLE
words: never across groups, never in a data lane (item 4 of 40_linecodec.md R125). -/
def Obligations.CommaOnlyAtIdle : Prop :=
  ∀ (words : List TxWord) (rd : RD) (p : Nat),
    (groupAt (streamBits (encodeStream words rd)) p = groupBits 0x17C#10 ∨
      groupAt (streamBits (encodeStream words rd)) p = groupBits 0x283#10) ↔
    (p % 40 = 0 ∧ words[p / 40]? = some .idle)

/-- A group either leaves the receive RD as it was, where both its sub-blocks do, or sets it to a value that depends on
the group alone; so any two receivers agree after an IDLE word (40_linecodec.md R128). -/
def Obligations.DisparityResynchronises : Prop :=
  (∀ g : Group,
    let neutral := (∀ rd, rdSub6 (abcdei g) rd = rd) ∧ (∀ rd, rdSub4 (fghj g) rd = rd)
    (neutral → ∀ rd, rdAfter g rd = rd) ∧ (¬neutral → ∀ rd rd', rdAfter g rd = rdAfter g rd')) ∧
  ∀ rd rd' rd'' : RD,
    (decodeWord (encodeWord .idle rd).1 rd').2 = (decodeWord (encodeWord .idle rd).1 rd'').2

/-- Each of the 517 code-group rows runs: its group decodes under `dec_rd` into the next lane of the word, `dec_rd`
becomes `RdAfter`, and nothing else changes (40_linecodec.md R119; a lane at a time, and a word beginning again after
its fourth lane, are the model's own, log entry 8). -/
def Obligations.CodeGroupRowsDecode : Prop :=
  ∀ (i : Instr) (rd : RD) (g : Group) (s : State), codeGroupOf i = some (rd, g) →
    exec i s = .next { s with
      line := { s.line with decRd := rdAfter g s.line.decRd }
      rx := { s.rx with
        lanes := (if s.rx.lanes.length < 4 then s.rx.lanes else []) ++ [(decodeLane g s.line.decRd).1] } }

/-- A well-formed code-group row that runs under its own receive RD decodes as Valid, to the symbol whose group it is,
and INVALID_GROUP as Invalid (30_encoding.md R91, R92). -/
def Obligations.LegalRowsAreValid : Prop :=
  ∀ (i : Instr) (rd : RD) (g : Group) (s : State), codeGroupOf i = some (rd, g) → i.wf = true → s.line.decRd = rd →
    ∃ t r, exec i s = .next t ∧ t.rx.lanes.getLast? = some r ∧
      (r = .invalid ↔ i = .invalidGroup rd g) ∧ (∀ sym, r = .valid sym → (encodeSymbol sym rd).1 = g)

/-! ### The line tick -/

/-- Outside RESET a line word is decoded under `dec_rd`, and the transport sees whether it holds a comma
(40_linecodec.md R122, R124; 46_endpoint.md R261 steps 2 and 4). -/
def Obligations.LineWordDecodes : Prop :=
  ∀ (i : Instr) (w : LineWord) (s : State), lineWordOf i = some w → s.line.linkState ≠ .reset →
    ∃ t, exec i s = .next t ∧
      t.line.decRd = (decodeWord w s.line.decRd).2 ∧ t.rx.lanes = (decodeWord w s.line.decRd).1 ∧
      (t.ports.commaDetected = true ↔ laneOf w 0 = 0x17C#10 ∨ laneOf w 0 = 0x283#10) ∧
      t.ports.delayCalibrate = false

/-- Outside RESET a line word leaves alone everything that is not the line domain's: the whole bus domain, every byte of
the local-bus memory, the host's registers but those a tick writes, the build, the inputs and `rx_prev`
(46_endpoint.md R261, R267). -/
def Obligations.LineWordFrame : Prop :=
  ∀ (i : Instr) (w : LineWord) (s : State), lineWordOf i = some w → s.line.linkState ≠ .reset →
    ∃ t, exec i s = .next t ∧
      t.cfg = s.cfg ∧ t.bus = s.bus ∧ t.agenda = s.agenda ∧ t.busLog = s.busLog ∧ t.tick = s.tick ∧
      t.line.rxPrev = s.line.rxPrev ∧ t.rx.window = s.rx.window ∧
      t.regs.scrBypass = s.regs.scrBypass ∧ t.regs.frameDropCount = s.regs.frameDropCount ∧
      t.regs.rxIdleLast = s.regs.rxIdleLast ∧ t.regs.phyReadyLast = s.regs.phyReadyLast ∧
      t.ports.rawIn = s.ports.rawIn ∧ t.ports.phyReadyIn = s.ports.phyReadyIn ∧ t.ports.rxIdleIn = s.ports.rxIdleIn ∧
      t.ports.txnIn = s.ports.txnIn ∧ t.ports.hostValue = s.ports.hostValue ∧ t.ports.encGroup = s.ports.encGroup ∧
      ∀ a, Memory.read t.mem a = Memory.read s.mem a

/-- A hunting tick (41_bitaligner.md R144): a comma at the current rotation counts towards lock, any other word slips by
one bit. The premises on the counter and the build are kept by every step (`BoundsKept`). -/
def Obligations.HuntStep : Prop :=
  ∀ (i : Instr) (w : LineWord) (s : State), lineWordOf i = some w → s.cfg.legal = true →
    (s.line.linkState = .sendTraining ∨ s.line.linkState = .waitAlign) → s.line.lock = false →
    s.line.commaRun.toNat < s.cfg.lockCount →
    ∃ t, exec i s = .next t ∧ t.line.driftRun = s.line.driftRun ∧
      if isComma w = true then
        t.line.commaRun.toNat = s.line.commaRun.toNat + 1 ∧
        (t.line.lock = true ↔ s.cfg.lockCount ≤ s.line.commaRun.toNat + 1) ∧
        t.line.alignOffset = s.line.alignOffset ∧ t.line.slipCount = s.line.slipCount ∧ t.ports.bitslipRequest = false
      else
        t.line.commaRun = 0 ∧ t.line.lock = false ∧
        t.line.alignOffset.val = (s.line.alignOffset.val + 1) % 40 ∧
        t.line.slipCount.toNat = min (s.line.slipCount.toNat + 1) s.cfg.slipLimit ∧ t.ports.bitslipRequest = true

/-- The drift check of a locked tick (41_bitaligner.md R145), `off` being a comma at another rotation of the window and
none at the current one. -/
def Obligations.DriftCheck : Prop :=
  ∀ (i : Instr) (w : LineWord) (s : State), lineWordOf i = some w → s.cfg.legal = true →
    s.line.linkState ≠ .reset → s.line.linkState ≠ .error → s.line.lock = true →
    s.line.driftRun.toNat < s.cfg.lockCount →
    ∃ t, exec i s = .next t ∧
      t.line.alignOffset = s.line.alignOffset ∧ t.line.slipCount = s.line.slipCount ∧ t.ports.bitslipRequest = false ∧
      let off := isComma w = false ∧
        ∃ r, r < 40 ∧ r ≠ s.line.alignOffset.val ∧ isComma (alignedWord s.rx.window r) = true
      (isComma w = true → t.line.driftRun = 0 ∧ t.line.lock = true ∧ t.line.commaRun = s.line.commaRun) ∧
      (off → s.cfg.lockCount ≤ s.line.driftRun.toNat + 1 →
        t.line.lock = false ∧ t.line.commaRun = 0 ∧ t.line.driftRun = 0) ∧
      (off → s.line.driftRun.toNat + 1 < s.cfg.lockCount →
        t.line.driftRun.toNat = s.line.driftRun.toNat + 1 ∧ t.line.lock = true ∧
          t.line.commaRun = s.line.commaRun) ∧
      (isComma w = false → ¬off →
        t.line.driftRun = s.line.driftRun ∧ t.line.lock = true ∧ t.line.commaRun = s.line.commaRun)

/-- ERROR (42_linktrainer.md R168): the aligner is frozen, IDLE is sent, nothing is received, and the state stays
whatever `phy_ready` is, until a link reset is requested. -/
def Obligations.ErrorStateHolds : Prop :=
  ∀ (i : Instr) (w : LineWord) (s : State), lineWordOf i = some w → s.line.linkState = .error →
    s.regs.linkResetReq = false →
    ∃ t, exec i s = .next t ∧ t.line.linkState = .error ∧
      t.line.lock = s.line.lock ∧ t.line.alignOffset = s.line.alignOffset ∧ t.line.commaRun = s.line.commaRun ∧
      t.line.driftRun = s.line.driftRun ∧ t.line.slipCount = s.line.slipCount ∧ t.ports.bitslipRequest = false ∧
      t.line.timer = s.line.timer ∧ t.line.errCount = s.line.errCount ∧
      Sent s t .idle s.line.scrState s.bridge.txq ∧ t.bridge.rxq = s.bridge.rxq ∧
      t.line.dscrState = s.line.dscrState ∧ t.regs = s.regs ∧ t.events = s.events

/-- The overrides (42_linktrainer.md R169): a requested link reset, then a transport that is down, go to RESET with their
cause and their event (60_exceptions.md R300) before the state's own rule, and the rest of the tick is as it is without
them. -/
def Obligations.Overrides : Prop :=
  ∀ (i : Instr) (w : LineWord) (s : State), lineWordOf i = some w → s.line.linkState ≠ .reset →
    (s.regs.linkResetReq = true ∨ s.regs.phyReadyLast = false ∧ s.line.linkState ≠ .error) →
    ∃ t u, exec i s = .next t ∧
      exec i { s with regs := { s.regs with linkResetReq := false, phyReadyLast := true } } = .next u ∧
      t.line.linkState = .reset ∧ t.line.timer = s.line.timer ∧ t.line.errCount = s.line.errCount ∧
      t.regs.linkResetReq = false ∧ t.regs.cause = (if s.regs.linkResetReq = true then 6 else 7) ∧
      t.line = { u.line with linkState := .reset, timer := s.line.timer, errCount := s.line.errCount } ∧
      t.events = s.events ++ violationEvents w s ++
        [.fallBack (if s.regs.linkResetReq = true then .hostReset else .phyDown)] ++ overflowEvents w s ∧
      t.bridge = u.bridge ∧ t.ports = u.ports ∧ t.rx = u.rx ∧
      t.regs.decodeErrorCount = u.regs.decodeErrorCount ∧ t.regs.rxOverflow = u.regs.rxOverflow

/-- SEND_TRAINING (42_linktrainer.md R164), with no override: IDLE is sent, the aligner hunts, then exhaustion,
then the dwell, then one more tick; a fall-back raises its event (60_exceptions.md R300). -/
def Obligations.SendTrainingRule : Prop :=
  ∀ (i : Instr) (w : LineWord) (s : State), lineWordOf i = some w → s.line.linkState = .sendTraining →
    s.regs.linkResetReq = false → s.regs.phyReadyLast = true →
    ∃ t, exec i s = .next t ∧ Sent s t .idle s.line.scrState s.bridge.txq ∧ t.regs.linkResetReq = false ∧
      t.line.errCount = s.line.errCount ∧
      (s.line.lock = false → (t.ports.bitslipRequest = true ↔ isComma w = false) ∧
        t.line.alignOffset.val =
          if isComma w = true then s.line.alignOffset.val else (s.line.alignOffset.val + 1) % 40) ∧
      if s.cfg.slipLimit ≤ t.line.slipCount.toNat then
        t.line.linkState = .error ∧ t.regs.cause = 4 ∧ t.line.timer = s.line.timer ∧
          t.events = s.events ++ [.fallBack .alignExhausted]
      else if s.cfg.txDwell ≤ s.line.timer.toNat + 1 then
        t.line.linkState = .waitAlign ∧ t.regs.cause = s.regs.cause ∧ t.line.timer = 0 ∧ t.events = s.events
      else
        t.line.linkState = .sendTraining ∧ t.regs.cause = s.regs.cause ∧ t.line.timer = s.line.timer + 1 ∧
          t.events = s.events

/-- WAIT_ALIGN (42_linktrainer.md R165), with no override: IDLE is sent, the aligner hunts, then lock, then
exhaustion, then the timeout; a fall-back raises its event (60_exceptions.md R300). -/
def Obligations.WaitAlignRule : Prop :=
  ∀ (i : Instr) (w : LineWord) (s : State), lineWordOf i = some w → s.line.linkState = .waitAlign →
    s.regs.linkResetReq = false → s.regs.phyReadyLast = true →
    ∃ t, exec i s = .next t ∧ Sent s t .idle s.line.scrState s.bridge.txq ∧ t.regs.linkResetReq = false ∧
      t.line.errCount = s.line.errCount ∧
      (s.line.lock = false → (t.ports.bitslipRequest = true ↔ isComma w = false) ∧
        t.line.alignOffset.val =
          if isComma w = true then s.line.alignOffset.val else (s.line.alignOffset.val + 1) % 40) ∧
      if t.line.lock = true then
        t.line.linkState = .aligned ∧ t.regs.cause = s.regs.cause ∧ t.line.timer = 0 ∧ t.events = s.events
      else if s.cfg.slipLimit ≤ t.line.slipCount.toNat then
        t.line.linkState = .error ∧ t.regs.cause = 4 ∧ t.line.timer = s.line.timer ∧
          t.events = s.events ++ [.fallBack .alignExhausted]
      else if s.cfg.alignTimeout ≤ s.line.timer.toNat + 1 then
        t.line.linkState = .error ∧ t.regs.cause = 3 ∧ t.line.timer = s.line.timer ∧
          t.events = s.events ++ [.fallBack .trainingTimeout]
      else
        t.line.linkState = .waitAlign ∧ t.regs.cause = s.regs.cause ∧ t.line.timer = s.line.timer + 1 ∧
          t.events = s.events

/-- ALIGNED (42_linktrainer.md R166), with no override: IDLE is sent, STATUS.ALIGNED is 1, then lost lock, then
any ERR word, then the confirmation window; a fall-back raises its event (60_exceptions.md R300). -/
def Obligations.AlignedRule : Prop :=
  ∀ (i : Instr) (w : LineWord) (s : State), lineWordOf i = some w → s.line.linkState = .aligned →
    s.regs.linkResetReq = false → s.regs.phyReadyLast = true →
    (statusValue s).getLsbD 2 = true ∧
    ∃ t, exec i s = .next t ∧ Sent s t .idle s.line.scrState s.bridge.txq ∧ t.regs.linkResetReq = false ∧
      if t.line.lock = false then
        t.line.linkState = .reset ∧ t.regs.cause = 2 ∧ t.line.timer = s.line.timer ∧
          t.line.errCount = s.line.errCount ∧ t.events = s.events ++ violationEvents w s ++ [.fallBack .alignmentLoss]
      else if classHere w s = .err then
        t.line.linkState = .reset ∧ t.regs.cause = 5 ∧ t.line.timer = s.line.timer ∧
          t.line.errCount = s.line.errCount ∧ t.events = s.events ++ [.codeViolation, .fallBack .confirmFail]
      else if s.cfg.confirmWindow ≤ s.line.timer.toNat + 1 then
        t.line.linkState = .ready ∧ t.regs.cause = s.regs.cause ∧ t.line.timer = 0 ∧ t.line.errCount = 0 ∧
          t.events = s.events
      else
        t.line.linkState = .aligned ∧ t.regs.cause = s.regs.cause ∧ t.line.timer = s.line.timer + 1 ∧
          t.line.errCount = s.line.errCount ∧ t.events = s.events

/-- READY (42_linktrainer.md R167), with no override: lost lock, then the leaky error count against its threshold; a
fall-back raises its event (60_exceptions.md R300). The premise on the count is kept by every step (`BoundsKept`). -/
def Obligations.ReadyRule : Prop :=
  ∀ (i : Instr) (w : LineWord) (s : State), lineWordOf i = some w → s.line.linkState = .ready →
    s.regs.linkResetReq = false → s.regs.phyReadyLast = true → s.cfg.legal = true →
    s.line.errCount.toNat < s.cfg.errThreshold →
    ∃ t, exec i s = .next t ∧ t.regs.linkResetReq = false ∧ t.line.timer = s.line.timer ∧
      if t.line.lock = false then
        t.line.linkState = .reset ∧ t.regs.cause = 2 ∧ t.line.errCount = s.line.errCount ∧
          t.events = s.events ++ violationEvents w s ++ [.fallBack .alignmentLoss] ++ overflowEvents w s
      else
        t.line.errCount.toNat =
          (if classHere w s = .err then s.line.errCount.toNat + 1 else max (s.line.errCount.toNat - 1) 0) ∧
        if s.cfg.errThreshold ≤ t.line.errCount.toNat then
          t.line.linkState = .reset ∧ t.regs.cause = 1 ∧
            t.events = s.events ++ violationEvents w s ++ [.fallBack .errThreshold] ++ overflowEvents w s
        else
          t.line.linkState = .ready ∧ t.regs.cause = s.regs.cause ∧
            t.events = s.events ++ violationEvents w s ++ overflowEvents w s

/-- Transmit selection (46_endpoint.md R263): in READY the head of `txq`, but a SOF only after an IDLE
word; else IDLE. -/
def Obligations.TransmitSelection : Prop :=
  ∀ (i : Instr) (w : LineWord) (s : State), lineWordOf i = some w → s.line.linkState ≠ .reset →
    ∃ t, exec i s = .next t ∧
      (∀ q, s.line.linkState = .ready → s.bridge.txq = .sof :: q → s.line.txLastIdle = true →
        Sent s t .sof s.cfg.scrSeed q) ∧
      (∀ d q, s.line.linkState = .ready → s.bridge.txq = .data d :: q → s.regs.scrBypass = false →
        Sent s t (.data (scramble s.line.scrState d).1) (scramble s.line.scrState d).2 q) ∧
      (∀ d q, s.line.linkState = .ready → s.bridge.txq = .data d :: q → s.regs.scrBypass = true →
        Sent s t (.data d) s.line.scrState q) ∧
      ((s.line.linkState ≠ .ready ∨ s.bridge.txq = [] ∨ ∃ q, s.bridge.txq = .sof :: q ∧ s.line.txLastIdle = false) →
        Sent s t .idle s.line.scrState s.bridge.txq)

/-- Receive delivery (46_endpoint.md R264) and overflow (R265): in READY a SOF, an ERR or a descrambled data word goes to
`rxq`, or is lost where it is full; IDLE words, and every word in another state, deliver nothing. -/
def Obligations.ReceiveDelivery : Prop :=
  ∀ (i : Instr) (w : LineWord) (s : State), lineWordOf i = some w → s.line.linkState ≠ .reset →
    ∃ t, exec i s = .next t ∧
      (s.line.linkState = .ready →
        (classHere w s = .sof → t.line.dscrState = s.cfg.scrSeed ∧ Delivered s t .sof) ∧
        (classHere w s = .err → t.line.dscrState = s.line.dscrState ∧ Delivered s t .err) ∧
        (∀ r, classHere w s = .data r →
          if s.regs.scrBypass = true then t.line.dscrState = s.line.dscrState ∧ Delivered s t (.data r)
          else t.line.dscrState = (descramble s.line.dscrState r).2 ∧
            Delivered s t (.data (descramble s.line.dscrState r).1))) ∧
      (s.line.linkState ≠ .ready ∨ classHere w s = .idle →
        t.line.dscrState = s.line.dscrState ∧ t.bridge.rxq = s.bridge.rxq ∧ t.regs.rxOverflow = s.regs.rxOverflow)

/-- DECODE_ERROR_COUNT (10_state.md R55; 46_endpoint.md R261 step 6; 60_exceptions.md R300): one more, modulo 2^32, for
an ERR word in ALIGNED or READY, with the event raised; unchanged for any other word or state. -/
def Obligations.DecodeErrorsCounted : Prop :=
  ∀ (i : Instr) (w : LineWord) (s : State), lineWordOf i = some w → s.line.linkState ≠ .reset →
    ∃ t, exec i s = .next t ∧
      if (s.line.linkState = .aligned ∨ s.line.linkState = .ready) ∧ classHere w s = .err then
        t.regs.decodeErrorCount.toNat = (s.regs.decodeErrorCount.toNat + 1) % 2 ^ 32 ∧
          (s.events ++ [Event.codeViolation]) <+: t.events
      else t.regs.decodeErrorCount = s.regs.decodeErrorCount

/-- The RESET tick (42_linktrainer.md R163): every link-scope element at its reset value but `rx_prev`, which holds the
raw word, the tunnel's effects first (what they are: `LinkResetSettlesTunnel`), an IDLE word sent from RD NEG, and the
next state chosen by the request and `phy_ready`. Every line-word row does the same in that tick: no word is decoded. -/
def Obligations.ResetTick : Prop :=
  ∀ (s : State) (raw : LineWord) (phy idle : Bool) (rest : List Action), s.cfg.legal = true → s.regs.cause.toNat < 8 →
    s.agenda = .tick raw phy idle :: rest → s.line.linkState = .reset →
    (∀ i w, lineWordOf i = some w → exec i (sampleInputs raw phy idle (s.putAgenda rest)) = step s) ∧
    ∃ t, step s = .next t ∧
      t.line = {
        linkState := if s.regs.linkResetReq = true then .reset else if phy = true then .sendTraining else .reset
        timer := 0, errCount := 0, encRd := .pos, decRd := .neg, rxPrev := raw, alignOffset := 0, lock := false
        commaRun := 0, driftRun := 0, slipCount := 0, scrState := s.cfg.scrSeed, dscrState := s.cfg.scrSeed
        txLastIdle := true } ∧
      t.bridge = { txq := [], rxq := [] } ∧
      t.bus = {
        pktWords := [], pktAck := false, depState := .hunt, depBuf := [], held := none, reqState := .idle
        curTxn := none, pendingRead := none, compOp := (tunnelLinkReset s).bus.compOp } ∧
      t.busLog = (tunnelLinkReset s).busLog ∧ t.ports.txnIn = (tunnelLinkReset s).ports.txnIn ∧
      t.regs = { s.regs with linkResetReq := false, rxIdleLast := idle, phyReadyLast := phy } ∧
      t.ports.tx = 0xD1B46D197C#40 ∧ t.ports.commaDetected = false ∧ t.ports.bitslipRequest = false ∧
      t.ports.delayCalibrate = true ∧ t.cfg = s.cfg ∧ t.events = s.events ∧ t.agenda = rest ∧
      ∀ a, Memory.read t.mem a = Memory.read s.mem a

/-- The tunnel's part of a link reset (45_bustunnel.md R244): the requester's transaction is completed, a write with 0
and a read with `LINK_DOWN_READ_VALUE`, one not yet accepted is kept; the completer's read becomes stale, its response
is dropped, its write goes on; the frames in flight are gone. -/
def Obligations.LinkResetSettlesTunnel : Prop :=
  ∀ (s : State) (raw : LineWord) (phy idle : Bool) (rest : List Action), s.cfg.legal = true → s.regs.cause.toNat < 8 →
    s.agenda = .tick raw phy idle :: rest → s.line.linkState = .reset →
    ∃ t, step s = .next t ∧
      (s.cfg.role = .master →
        t.bus.reqState = .idle ∧ t.bus.curTxn = none ∧ t.bus.pendingRead = none ∧
        (s.bus.reqState = .idle → t.busLog = s.busLog ∧ t.ports.txnIn = s.ports.txnIn) ∧
        (∀ x, s.bus.reqState = .writing → s.bus.curTxn = some x →
          t.busLog = s.busLog ++ [.complete x 0] ∧ t.ports.txnIn = none) ∧
        (∀ x, s.bus.reqState = .reading → s.bus.curTxn = some x →
          t.busLog = s.busLog ++ [.complete x s.cfg.linkDownReadValue] ∧ t.ports.txnIn = none)) ∧
      (s.cfg.role = .slave →
        t.busLog = s.busLog ∧ t.ports.txnIn = s.ports.txnIn ∧
        (s.bus.compOp = .idle → t.bus.compOp = .idle) ∧ (s.bus.compOp = .respond → t.bus.compOp = .idle) ∧
        (∀ a be st, s.bus.compOp = .busRead a be st → t.bus.compOp = .busRead a be true) ∧
        (∀ a d be, s.bus.compOp = .busWrite a d be → t.bus.compOp = .busWrite a d be)) ∧
      t.bus.pktWords = [] ∧ t.bus.pktAck = false ∧ t.bridge.txq = [] ∧ t.bridge.rxq = [] ∧
      t.bus.depState = .hunt ∧ t.bus.depBuf = [] ∧ t.bus.held = none

/-! ### Messages and frames -/

/-- The requester takes the message in `held` (45_bustunnel.md R239): the RESPONSE to its pending read completes it with
the data, any other message is discarded with `Unmatched`. -/
def Obligations.RequesterReceives : Prop :=
  ∀ (i : Instr) (m : Message) (s : State), messageOf i = some m → s.bus.held = some m → s.cfg.role = .master →
    (∀ x, m.mtype = 0x03#8 → s.bus.reqState = .reading → s.bus.pendingRead = some m.addr → s.bus.curTxn = some x →
      exec i s = .next { s with
        bus := { s.bus with held := none, curTxn := none, pendingRead := none, reqState := .idle }
        ports := { s.ports with txnIn := none }
        busLog := s.busLog ++ [.complete x m.data] }) ∧
    (¬(m.mtype = 0x03#8 ∧ s.bus.reqState = .reading ∧ s.bus.pendingRead = some m.addr) →
      exec i s = .next { s with bus := { s.bus with held := none }, events := s.events ++ [.unmatched m] })

/-- The free completer takes the message in `held` (45_bustunnel.md R241): a WRITE and a READ issue their cycle, a
RESPONSE is discarded with `Unmatched`. -/
def Obligations.CompleterReceives : Prop :=
  ∀ (i : Instr) (m : Message) (s : State), messageOf i = some m → s.bus.held = some m → s.cfg.role = .slave →
    s.bus.compOp = .idle → s.bus.pktWords = [] →
    (m.mtype = 0x01#8 → exec i s = .next { s with
      bus := { s.bus with held := none, compOp := .busWrite m.addr m.data m.be }
      busLog := s.busLog ++ [.memWrite m.addr m.be m.data] }) ∧
    (m.mtype = 0x02#8 → exec i s = .next { s with
      bus := { s.bus with held := none, compOp := .busRead m.addr m.be false }
      busLog := s.busLog ++ [.memRead m.addr m.be] }) ∧
    (m.mtype = 0x03#8 → exec i s = .next { s with
      bus := { s.bus with held := none }, events := s.events ++ [.unmatched m] })

/-- A completer with a cycle or a response outstanding takes no message (45_bustunnel.md R243): it stays in `held`. A
message row puts its message in `held` first, whatever was there, and then does what it does with it there: that is the
model's own (log entry 10). -/
def Obligations.BusyCompleterHolds : Prop :=
  ∀ (i : Instr) (m : Message) (s : State), messageOf i = some m →
    exec i s = exec i { s with bus := { s.bus with held := some m } } ∧
    (s.cfg.role = .slave → (s.bus.compOp ≠ .idle ∨ s.bus.pktWords ≠ []) →
      exec i s = .next { s with bus := { s.bus with held := some m } })

/-- A frame whose header is malformed is discarded and counted once (30_encoding.md R94; 44_framer.md R217). -/
def Obligations.MalformedHeaderDiscarded : Prop :=
  ∀ (hdr addr data : Word) (s : State),
    exec (.malformedHeader hdr addr data) s = .next { s with
      bus := { s.bus with depState := .hunt, depBuf := [] }
      regs := { s.regs with frameDropCount := s.regs.frameDropCount + 1 }
      events := s.events ++ [.frameIntegrity] }

/-- The Packetizer step (44_framer.md R209): the head of `pkt_words` goes to `txq` where there is room; the last entry
of a requester's WRITE completes it (45_bustunnel.md R237), the last of a RESPONSE ends RESPOND (R242); with nothing to
send or no room nothing happens. -/
def Obligations.PacketizerStepRule : Prop :=
  ∀ (s : State) (rest : List Action), s.cfg.legal = true → s.regs.cause.toNat < 8 →
    s.agenda = .packetizer :: rest →
    (s.bus.pktWords = [] ∨ s.cfg.txqDepth ≤ s.bridge.txq.length → step s = .next { s with agenda := rest }) ∧
    (∀ e es, s.bus.pktWords = e :: es → s.bridge.txq.length < s.cfg.txqDepth →
      (es ≠ [] → step s = .next { s with
        agenda := rest, bridge := { s.bridge with txq := s.bridge.txq ++ [e] }, bus := { s.bus with pktWords := es } }) ∧
      (∀ x, es = [] → s.bus.pktAck = true → s.bus.curTxn = some x → s.bus.compOp ≠ .respond →
        step s = .next { s with
          agenda := rest, bridge := { s.bridge with txq := s.bridge.txq ++ [e] }
          bus := { s.bus with pktWords := [], pktAck := false, curTxn := none, reqState := .idle }
          ports := { s.ports with txnIn := none }
          busLog := s.busLog ++ [.complete x 0] }) ∧
      (es = [] → s.bus.pktAck = false →
        step s = .next { s with
          agenda := rest, bridge := { s.bridge with txq := s.bridge.txq ++ [e] }
          bus := { s.bus with
            pktWords := [], compOp := if s.bus.compOp = .respond then .idle else s.bus.compOp } }))

/-- The Depacketizer step (44_framer.md R213 to R218), entry by entry. -/
def Obligations.DepacketizerStepRule : Prop :=
  ∀ (s : State) (rest : List Action), s.cfg.legal = true → s.regs.cause.toNat < 8 →
    s.agenda = .depacketizer :: rest →
    (s.bus.held ≠ none ∨ s.bridge.rxq = [] → step s = .next { s with agenda := rest }) ∧
    (∀ e q, s.bus.held = none → s.bridge.rxq = e :: q →
      let taken := { s with agenda := rest, bridge := { s.bridge with rxq := q } }
      let drop := fun (st : DepState) => { taken with
        bus := { s.bus with depState := st, depBuf := [] }
        regs := { s.regs with frameDropCount := s.regs.frameDropCount + 1 }
        events := s.events ++ [.frameIntegrity] }
      (s.bus.depState = .hunt → e = .sof →
        step s = .next { taken with bus := { s.bus with depState := .collect, depBuf := [] } }) ∧
      (s.bus.depState = .hunt → e ≠ .sof → step s = .next taken) ∧
      (s.bus.depState = .collect → e = .sof → step s = .next (drop .collect)) ∧
      (s.bus.depState = .collect → e = .err → step s = .next (drop .hunt)) ∧
      (∀ w, s.bus.depState = .collect → e = .data w → s.bus.depBuf.length < 3 →
        step s = .next { taken with bus := { s.bus with depBuf := s.bus.depBuf ++ [w] } }) ∧
      (∀ w hdr addr data, s.bus.depState = .collect → e = .data w → s.bus.depBuf = [hdr, addr, data] →
        let ok := w = crc32 [hdr, addr, data] ∧
          (hdr.extractLsb' 0 8 = 0x01#8 ∨ hdr.extractLsb' 0 8 = 0x02#8 ∨ hdr.extractLsb' 0 8 = 0x03#8) ∧
          hdr.extractLsb' 12 20 = 0#20
        (ok → step s = .next { taken with
          bus := { s.bus with
            depState := .hunt, depBuf := []
            held := some { mtype := hdr.extractLsb' 0 8, be := hdr.extractLsb' 8 4, addr := addr, data := data } } }) ∧
        (¬ok → step s = .next (drop .hunt))))

/-- A frame from `BuildFrame` (44_framer.md R207) whose five entries stand in `rxq` becomes its message in five steps of
the Depacketizer, from whatever was there before: an open frame costs one drop, and the entries behind stay in order
(R213, R215, R217 to R219). -/
def Obligations.FrameBecomesMessage : Prop :=
  ∀ (s : State) (mtype : Byte) (be : ByteEnable) (addr data : Word) (q : List RxEntry), s.cfg.legal = true →
    s.regs.cause.toNat < 8 → (mtype = 0x01#8 ∨ mtype = 0x02#8 ∨ mtype = 0x03#8) → s.bus.held = none →
    s.agenda = List.replicate 5 .depacketizer →
    s.bridge.rxq = (buildFrame mtype be addr data).map receivedAs ++ q →
    ∃ t, Host.Core.run Sys2Proof.core 5 s = .next t ∧
      t = { s with
        agenda := [], bridge := { s.bridge with rxq := q }
        bus := { s.bus with
          depState := .hunt, depBuf := []
          held := some { mtype := mtype, be := be, addr := addr, data := data } }
        regs := { s.regs with
          frameDropCount := if s.bus.depState = .collect then s.regs.frameDropCount + 1 else s.regs.frameDropCount }
        events := if s.bus.depState = .collect then s.events ++ [.frameIntegrity] else s.events }

/-- The completer's bus ends its cycle (45_bustunnel.md R242): a write leaves the completer idle, a read loads its
RESPONSE unless it is stale or the link is not READY. That the write reaches the memory as its cycle ends, and that a
read with no drawn value returns the memory's word, are the model's own (log entry 3). -/
def Obligations.CompleterBusDoneRule : Prop :=
  ∀ (s : State) (v : Option Word) (rest : List Action), s.cfg.legal = true → s.regs.cause.toNat < 8 →
    s.agenda = .busDone v :: rest →
    (∀ a d be, s.bus.compOp = .busWrite a d be → step s = .next { s with
      agenda := rest, mem := memWrite s.mem a be d, bus := { s.bus with compOp := .idle } }) ∧
    (∀ a be stale, s.bus.compOp = .busRead a be stale →
      let x := v.getD (memRead s.mem a)
      let hdr : Word := 0x03#32 ||| be.zeroExtend 32 <<< 8
      (stale = false ∧ s.line.linkState = .ready → step s = .next { s with
        agenda := rest
        bus := { s.bus with
          pktWords := [.sof, .data hdr, .data a, .data x, .data (crc32 [hdr, a, x])]
          pktAck := false, compOp := .respond } }) ∧
      (¬(stale = false ∧ s.line.linkState = .ready) → step s = .next { s with
        agenda := rest, bus := { s.bus with compOp := .idle } })) ∧
    (s.bus.compOp = .idle ∨ s.bus.compOp = .respond → step s = .next { s with agenda := rest })

/-! ### Registers -/

/-- CONTROL (10_state.md R51), at offset 0x00: bit 0 written as 1 requests a link reset and reads 0, bit 1 writes and
reads `scr_bypass`, the rest is ignored and reads 0; nothing else changes. After reset SCR_BYPASS is 0. -/
def Obligations.ControlRegister : Prop :=
  (∀ val, Instr.csrrControl.image = .readAccess 0x00#32 ∧ (Instr.csrwControl val).image = .writeAccess 0x00#32 val) ∧
  (∀ cfg, (State.resetOf cfg).regs.scrBypass = false) ∧
  ∀ (val : Word) (s : State),
    exec (.csrwControl val) s = .next { s with
      regs := { s.regs with
        linkResetReq := if val.getLsbD 0 = true then true else s.regs.linkResetReq
        scrBypass := val.getLsbD 1 } } ∧
    ∃ v : Word, exec .csrrControl s = .next { s with ports := { s.ports with hostValue := v } } ∧
      v.getLsbD 1 = s.regs.scrBypass ∧ ∀ k, k ≠ 1 → v.getLsbD k = false

/-- STATUS (10_state.md R52, 47_control.md R287), at offset 0x04: each field of the word a read returns, with no other
effect; writes are ignored. A reserved cause code is never written (`BoundsKept`) and is a Fault
(`WhereFaultsArise`). -/
def Obligations.StatusRegister : Prop :=
  (∀ val, Instr.csrrStatus.image = .readAccess 0x04#32 ∧ (Instr.csrwStatus val).image = .writeAccess 0x04#32 val) ∧
  ∀ (val : Word) (s : State), s.regs.cause.toNat < 8 →
    exec (.csrwStatus val) s = .next s ∧
    ∃ v : Word, exec .csrrStatus s = .next { s with ports := { s.ports with hostValue := v } } ∧
      (v.getLsbD 0 = true ↔ s.line.linkState = .ready) ∧ (v.getLsbD 1 = true ↔ s.line.linkState = .error) ∧
      (v.getLsbD 2 = true ↔ s.line.linkState = .aligned ∨ s.line.linkState = .ready) ∧
      v.getLsbD 3 = s.line.lock ∧ v.getLsbD 4 = s.regs.rxIdleLast ∧ v.getLsbD 5 = s.regs.rxOverflow ∧
      v.getLsbD 6 = s.regs.phyReadyLast ∧ v.getLsbD 7 = false ∧
      v.extractLsb' 8 3 =
        (match s.line.linkState with
          | .reset => 0#3
          | .sendTraining => 1#3
          | .waitAlign => 2#3
          | .aligned => 3#3
          | .ready => 4#3
          | .error => 5#3) ∧
      v.getLsbD 11 = false ∧ v.extractLsb' 12 4 = s.regs.cause ∧
      (v.extractLsb' 16 6).toNat = s.line.alignOffset.val ∧ v.extractLsb' 22 10 = 0#10

/-- CLEAR (10_state.md R53, 47_control.md R288), at offset 0x08: each bit written as 1 clears its field, the others do
nothing, and it reads 0. -/
def Obligations.ClearRegister : Prop :=
  (∀ val, Instr.csrrClear.image = .readAccess 0x08#32 ∧ (Instr.csrwClear val).image = .writeAccess 0x08#32 val) ∧
  ∀ (val : Word) (s : State),
    exec (.csrwClear val) s = .next { s with
      regs := { s.regs with
        rxOverflow := if val.getLsbD 0 = true then false else s.regs.rxOverflow
        cause := if val.getLsbD 1 = true then 0 else s.regs.cause
        frameDropCount := if val.getLsbD 2 = true then 0 else s.regs.frameDropCount
        decodeErrorCount := if val.getLsbD 3 = true then 0 else s.regs.decodeErrorCount } } ∧
    exec .csrrClear s = .next { s with ports := { s.ports with hostValue := 0 } }

/-- FRAME_DROP_COUNT and DECODE_ERROR_COUNT (10_state.md R54, R55; 47_control.md R285, R289), at offsets 0x0C
and 0x10: reads return the counters,
writes are ignored. -/
def Obligations.CounterRegisters : Prop :=
  (∀ val, Instr.csrrFrameDropCount.image = .readAccess 0x0C#32 ∧
    (Instr.csrwFrameDropCount val).image = .writeAccess 0x0C#32 val ∧
    Instr.csrrDecodeErrorCount.image = .readAccess 0x10#32 ∧
    (Instr.csrwDecodeErrorCount val).image = .writeAccess 0x10#32 val) ∧
  ∀ (val : Word) (s : State),
    exec .csrrFrameDropCount s = .next { s with ports := { s.ports with hostValue := s.regs.frameDropCount } } ∧
    exec .csrrDecodeErrorCount s = .next { s with ports := { s.ports with hostValue := s.regs.decodeErrorCount } } ∧
    exec (.csrwFrameDropCount val) s = .next s ∧ exec (.csrwDecodeErrorCount val) s = .next s

/-- Every other offset, and every offset that is no multiple of 4, reads 0 and ignores writes (10_state.md R56). -/
def Obligations.UnusedOffsets : Prop :=
  ∀ (off val : Word) (s : State) (rest : List Action), s.cfg.legal = true →
    (0x10 < off.toNat ∨ off.toNat % 4 ≠ 0) →
    (s.agenda = .hostRead off :: rest → s.regs.cause.toNat < 8 →
      step s = .next { s with agenda := rest, ports := { s.ports with hostValue := 0 } }) ∧
    (s.agenda = .hostWrite off val :: rest → s.regs.cause.toNat < 8 → step s = .next { s with agenda := rest }) ∧
    exec (.csrReserved false off val) s = .next { s with ports := { s.ports with hostValue := 0 } } ∧
    exec (.csrReserved true off val) s = .next s

/-! ### Local-bus transactions -/

/-- The requester accepts a write (45_bustunnel.md R237) where R236 holds and the bus presents it, and completes it in
the step that queues the frame's last entry, or unsent in a link reset. -/
def Obligations.RequesterAcceptsWrite : Prop :=
  (∀ (addr data : Word) (be : ByteEnable) (s : State),
    s.cfg.role = .master → s.bus.reqState = .idle → s.bus.pktWords = [] → s.line.linkState = .ready →
    s.ports.txnIn = some { we := true, addr := addr, data := data, be := be } →
    let hdr : Word := 0x01#32 ||| be.zeroExtend 32 <<< 8
    exec (.txnWr addr data be) s = .next { s with
      bus := { s.bus with
        curTxn := some { we := true, addr := addr, data := data, be := be }, reqState := .writing
        pktWords := [.sof, .data hdr, .data addr, .data data, .data (crc32 [hdr, addr, data])], pktAck := true } }) ∧
  (∀ (s : State) (rest : List Action) (e : TxEntry) (x : BusTxn), s.cfg.legal = true → s.cfg.role = .master →
    s.regs.cause.toNat < 8 → Coherent s → s.agenda = .packetizer :: rest → s.bus.reqState = .writing →
    s.bus.curTxn = some x → s.bus.pktWords = [e] → s.bridge.txq.length < s.cfg.txqDepth →
    ∃ t, step s = .next t ∧ t.bridge.txq = s.bridge.txq ++ [e] ∧ t.busLog = s.busLog ++ [.complete x 0] ∧
      t.bus.curTxn = none ∧ t.bus.reqState = .idle ∧ t.ports.txnIn = none) ∧
  ∀ (s : State) (raw : LineWord) (phy idle : Bool) (rest : List Action) (x : BusTxn), s.cfg.legal = true →
    s.regs.cause.toNat < 8 → s.cfg.role = .master → s.agenda = .tick raw phy idle :: rest → s.line.linkState = .reset →
    s.bus.reqState = .writing → s.bus.curTxn = some x →
    ∃ t, step s = .next t ∧ t.busLog = s.busLog ++ [.complete x 0] ∧ t.bus.reqState = .idle ∧
      t.bus.pktWords = [] ∧ t.bridge.txq = []

/-- The requester accepts the read its bus presents (45_bustunnel.md R238) where R236 holds: the address is pending and
the frame carries DATA 0. The read stays pending until its RESPONSE, a link reset or the power-up reset. -/
def Obligations.RequesterAcceptsRead : Prop :=
  (∀ (addr data : Word) (be : ByteEnable) (s : State),
    s.cfg.role = .master → s.bus.reqState = .idle → s.bus.pktWords = [] → s.line.linkState = .ready →
    s.ports.txnIn = some { we := false, addr := addr, data := data, be := be } →
    let hdr : Word := 0x02#32 ||| be.zeroExtend 32 <<< 8
    exec (.txnRd addr data be) s = .next { s with
      bus := { s.bus with
        curTxn := some { we := false, addr := addr, data := data, be := be }, reqState := .reading
        pendingRead := some addr
        pktWords := [.sof, .data hdr, .data addr, .data 0, .data (crc32 [hdr, addr, 0])], pktAck := false } }) ∧
  ∀ (s t : State) (a : Word), s.bus.reqState = .reading → s.bus.pendingRead = some a → step s = .next t →
    t.bus.pendingRead = some a ∨ s.line.linkState = .reset ∨ s.agenda.head? = some .rst ∨
      ∃ m, s.bus.held = some m ∧ m.mtype = 0x03#8 ∧ m.addr = a

/-- A transaction that may not be accepted waits on the bus (45_bustunnel.md R236), which presents at most one: where R236
does not hold, or another is presented already, nothing else changes; that a second one is then not presented is the model's
own (log entry 16). Where none is presented, the row presents its own and then does what it does where that one is
presented: that too is the model's own (log entry 10). -/
def Obligations.TransactionWaits : Prop :=
  ∀ (addr data : Word) (be : ByteEnable) (we : Bool) (s : State),
    (s.ports.txnIn = none →
      exec (if we = true then .txnWr addr data be else .txnRd addr data be) s =
        exec (if we = true then .txnWr addr data be else .txnRd addr data be) { s with
          ports := { s.ports with txnIn := some { we := we, addr := addr, data := data, be := be } } }) ∧
    ((s.cfg.role ≠ .master ∨ s.bus.reqState ≠ .idle ∨ s.bus.pktWords ≠ [] ∨ s.line.linkState ≠ .ready ∨
      ∃ x, s.ports.txnIn = some x ∧ x ≠ { we := we, addr := addr, data := data, be := be }) →
    exec (if we = true then .txnWr addr data be else .txnRd addr data be) s = .next { s with
      ports := { s.ports with
        txnIn := some (s.ports.txnIn.getD { we := we, addr := addr, data := data, be := be }) } })

/-! ### The whole machine -/

/-- A step runs the decoded instruction: with an action at the head of the schedule, the unit that the action fetches,
written as its format's bytes, decodes to the instruction that the step runs. A line tick first samples its inputs
(46_endpoint.md R261 steps 0 and 2); the others take their action off the schedule and no more. The schedule and the byte
layout of the units are the model's own (log entries 7 and 4). -/
def Obligations.StepRunsDecodedInstruction : Prop :=
  ∀ (s : State) (rest : List Action) (i : Instr), s.cfg.legal = true → s.regs.cause.toNat < 8 →
    let n := s.putAgenda rest
    (∀ raw phy idle, s.agenda = .tick raw phy idle :: rest → s.line.linkState ≠ .reset →
      let u := { n with
        ports := { n.ports with rawIn := raw, phyReadyIn := phy, rxIdleIn := idle }
        regs := { n.regs with rxIdleLast := idle, phyReadyLast := phy }
        line := { n.line with rxPrev := raw }
        rx := { n.rx with window := raw ++ n.line.rxPrev }
        tick := n.tick + 1 }
      let a : LineWord := (raw ++ n.line.rxPrev).extractLsb' n.line.alignOffset.val 40
      decode .lineWord n.line.decRd (bytesOf 5 a.toNat) = .ok (i, []) → step s = exec i u) ∧
    (∀ g : Group, s.agenda = .group g :: rest →
      decode .codeGroup n.line.decRd (bytesOf 2 g.toNat) = .ok (i, []) → step s = exec i n) ∧
    (∀ off, s.agenda = .hostRead off :: rest →
      decode .registerAccess .neg (bytesOf 4 off.toNat ++ [0#8]) = .ok (i, []) → step s = exec i n) ∧
    (∀ off val, s.agenda = .hostWrite off val :: rest →
      decode .registerAccess .neg (bytesOf 4 off.toNat ++ [1#8] ++ bytesOf 4 val.toNat) = .ok (i, []) →
      step s = exec i n) ∧
    (∀ x, s.agenda = .accept :: rest → s.cfg.role = .master → s.bus.reqState = .idle → s.bus.pktWords = [] →
      s.line.linkState = .ready → s.ports.txnIn = some x →
      decode .busTxn .neg (Image.txn x.we x.addr x.data x.be).bytes = .ok (i, []) → step s = exec i n) ∧
    (∀ m, s.agenda = .receive :: rest → s.bus.held = some m →
      (s.cfg.role = .master ∨ s.bus.compOp = .idle ∧ s.bus.pktWords = []) →
      (m.mtype = 0x01#8 ∨ m.mtype = 0x02#8 ∨ m.mtype = 0x03#8) →
      decode .frameHeader .neg (Image.header (headerWord m.mtype m.be) m.addr m.data).bytes = .ok (i, []) →
      step s = exec i n) ∧
    (∀ hdr addr data q, s.agenda = .depacketizer :: rest → s.bus.held = none → s.bus.depState = .collect →
      s.bus.depBuf = [hdr, addr, data] → s.bridge.rxq = .data (crc32 [hdr, addr, data]) :: q →
      legalHeader hdr = false →
      decode .frameHeader .neg (Image.header hdr addr data).bytes = .ok (i, []) →
      step s = exec i (n.putBridge { n.bridge with rxq := q }))

/-- The bounds and the coherence of the tunnel hold right after reset, for every legal build, and for the machine's own
reset state (its role is the model's choice, log entry 1). -/
def Obligations.InvariantsAtReset : Prop :=
  (∀ cfg : Params, cfg.legal = true → Bounds (State.resetOf cfg) ∧ Coherent (State.resetOf cfg)) ∧
    Bounds State.reset ∧ Coherent State.reset

/-- Every step keeps the bounds: the ranges of the counters (10_state.md R31, R32, R38, R39), lock in ALIGNED and READY,
the capacities of the queues and buffers (R42 to R45), a cause code that is not reserved (60_exceptions.md R301) and the
memory's canonical form. No step changes the build those ranges rest on (00_scope.md R7). -/
def Obligations.BoundsKept : Prop :=
  ∀ s t : State, Bounds s → step s = .next t → Bounds t ∧ t.cfg = s.cfg

/-- Every step keeps the tunnel coherent: `req_state`, `cur_txn`, `pending_read`, `pkt_ack`, `pkt_words` and `comp_op`
fit together and fit the role (45_bustunnel.md R235 to R244). -/
def Obligations.CoherenceKept : Prop :=
  ∀ s t : State, Coherent s → step s = .next t → Coherent t

/-- From a state within the bounds no step is a fault, but a single `Encode` that the environment asks for outside the
alphabet (60_exceptions.md R316: neither Fault is reachable from a correctly built endpoint). -/
def Obligations.NoFaultWithinBounds : Prop :=
  ∀ s : State, Bounds s →
    (∀ k v rest, s.agenda = .encode k v :: rest → k = false ∨ v = 0xBC#8 ∨ v = 0xFB#8) → neverFaults s

/-- The two Faults of 60_exceptions.md R316 and the steps that raise them: every step from a state that holds a reserved
cause code (R301), and the STATUS read itself; and a single `Encode` outside the alphabet (40_linecodec.md R118), which on
a member of it gives its group and moves `enc_rd`. That the code is looked at as a step begins, and that a step runs one
`Encode` alone, are the model's own (log entries 12 and 8). -/
def Obligations.WhereFaultsArise : Prop :=
  (∀ s : State, 8 ≤ s.regs.cause.toNat →
    exec .csrrStatus s = .fault (.reservedCause s.regs.cause) ∧
    (s.cfg.legal = true → step s = .fault (.reservedCause s.regs.cause))) ∧
  ∀ (s : State) (k : Bool) (v : Byte) (rest : List Action), s.cfg.legal = true → s.regs.cause.toNat < 8 →
    s.agenda = .encode k v :: rest →
    (∀ sym : Symbol, sym.k = k → sym.v = v → step s = .next { s with
      agenda := rest
      line := { s.line with encRd := (encodeSymbol sym s.line.encRd).2 }
      ports := { s.ports with encGroup := (encodeSymbol sym s.line.encRd).1 } }) ∧
    (k = true → v ≠ 0xBC#8 → v ≠ 0xFB#8 → step s = .fault (.encodeOutsideAlphabet k v))

/-- ERROR is sticky (70_reset_and_hazards.md R348): with no link reset requested no step leaves it, but the power-up
reset. -/
def Obligations.ErrorIsSticky : Prop :=
  ∀ s t : State, s.line.linkState = .error → s.regs.linkResetReq = false → s.agenda.head? ≠ some .rst →
    step s = .next t → t.line.linkState = .error

/-- Only a line tick and the power-up reset change `link_state` (10_state.md R30: only the LinkTrainer's transition
function does, and it runs once per line tick, 42_linktrainer.md). -/
def Obligations.OnlyTicksMoveLinkState : Prop :=
  ∀ s t : State, step s = .next t → t.line.linkState ≠ s.line.linkState →
    ((s.agenda = [] ∧ enabledBusStep s = none) ∨ s.agenda.head? = some .rst ∨
      ∃ raw phy idle, s.agenda.head? = some (.tick raw phy idle))

/-- The power-up reset (70_reset_and_hazards.md R330, R332): every state element at its reset value whatever its scope,
no completion given; STATUS then reads 0. The inputs, the memory, the schedule and the record of events are not the
block's (log entry 9). -/
def Obligations.PowerUpReset : Prop :=
  ∀ (s : State) (rest : List Action), s.cfg.legal = true → s.regs.cause.toNat < 8 → s.agenda = .rst :: rest →
    ∃ t, step s = .next t ∧
      t.line = {
        linkState := .reset, timer := 0, errCount := 0, encRd := .neg, decRd := .neg, rxPrev := 0, alignOffset := 0
        lock := false, commaRun := 0, driftRun := 0, slipCount := 0, scrState := s.cfg.scrSeed
        dscrState := s.cfg.scrSeed, txLastIdle := true } ∧
      t.bridge = { txq := [], rxq := [] } ∧
      t.bus = {
        pktWords := [], pktAck := false, depState := .hunt, depBuf := [], held := none, reqState := .idle
        curTxn := none, pendingRead := none, compOp := .idle } ∧
      t.regs = {
        scrBypass := false, linkResetReq := false, cause := 0, rxOverflow := false, frameDropCount := 0
        decodeErrorCount := 0, rxIdleLast := false, phyReadyLast := false } ∧
      t.ports.txnIn = none ∧ t.busLog = s.busLog ∧ t.cfg = s.cfg ∧
      exec .csrrStatus t = .next { t with ports := { t.ports with hostValue := 0 } }

/-- A byte of the local-bus memory changes only as a write cycle of the completer ends, in one of the bytes its
byte-enable selects, or by another master (20_memory.md R63, R68, R74); where a word's bytes lie, and that they change as
the cycle ends, are the model's own (log entry 3). -/
def Obligations.OnlyBusWritesChangeMemory : Prop :=
  ∀ (s t : State) (a : Nat), Memory.wf s.mem = true → step s = .next t →
    Memory.read t.mem a ≠ Memory.read s.mem a →
    ∃ addr be data k, k < 4 ∧ be.getLsbD k = true ∧ a = 4 * addr.toNat + k ∧
      Memory.read t.mem a = data.extractLsb' (8 * k) 8 ∧
      (s.agenda.head? = some (.otherMaster addr be data) ∨
        s.bus.compOp = .busWrite addr data be ∧
          (s.agenda = [] ∨ ∃ v, s.agenda.head? = some (.busDone v)))

/-- `rx_idle` reaches STATUS and nothing else (46_endpoint.md R262): two ticks that differ in it alone leave states that
differ in the sample alone. -/
def Obligations.RxIdleOnlySampled : Prop :=
  ∀ (s : State) (raw : LineWord) (phy idle idle' : Bool) (rest : List Action), s.cfg.legal = true →
    s.regs.cause.toNat < 8 →
    ∃ t u, step (s.putAgenda (.tick raw phy idle :: rest)) = .next t ∧
      step (s.putAgenda (.tick raw phy idle' :: rest)) = .next u ∧
      u = { t with
        regs := { t.regs with rxIdleLast := idle' }, ports := { t.ports with rxIdleIn := idle' } }

/-- The self-synchronizing scrambler (43_scrambler.md R197): a descrambler in any state gives every word after the first,
and the first from bit 23 on; in the sender's state it gives them all. -/
def Obligations.DescramblerSynchronises : Prop :=
  ∀ (S T : BitVec 23) (xs : List Word),
    let ys := descrambleAll T (scrambleAll S xs)
    ys.length = xs.length ∧ (∀ k, 1 ≤ k → ys[k]? = xs[k]?) ∧
    (∀ x y j, xs[0]? = some x → ys[0]? = some y → 23 ≤ j → y.getLsbD j = x.getLsbD j) ∧
    descrambleAll S (scrambleAll S xs) = xs

/-- A write on the completer's memory (first item of 45_bustunnel.md R247; 30_encoding.md R89): the word becomes
`(old & ~ByteMask(be)) | (d & ByteMask(be))`, no other address changes, and the form is kept. That each address names a
word of its own is the model's choice (log entry 3). -/
def Obligations.WriteAppliesByteMask : Prop :=
  ∀ (m : List Host.Cell) (a b : Word) (be : ByteEnable) (d : Word), Memory.wf m = true →
    memRead (memWrite m a be d) a = (memRead m a &&& ~~~byteMask be) ||| (d &&& byteMask be) ∧
    (b ≠ a → memRead (memWrite m a be d) b = memRead m b) ∧ Memory.wf (memWrite m a be d) = true ∧
    ∀ k, k < 4 → (byteMask be).extractLsb' (8 * k) 8 = if be.getLsbD k = true then 0xFF#8 else 0x00#8

/-- The time to failure (42_linktrainer.md R174). An endpoint that has hunted for `n` ticks without a comma
(`Searching`) slips in every further tick without one, and reaches ERROR exactly when `n + 1` is `min(SLIP_LIMIT,
TX_DWELL + ALIGN_TIMEOUT)`, with the cause of the limit met first; a RESET tick begins the hunt. So with `phy_ready` 1,
no request and no comma in any tick, ERROR is reached at the end of the tick one after that minimum, counted from the
RESET tick, and no sooner, whatever words arrive. -/
def Obligations.FailureTime : Prop :=
  (∀ (s : State) (raw : LineWord) (idle : Bool) (rest : List Action) (n : Nat), s.cfg.legal = true →
    s.regs.cause.toNat < 8 → s.regs.linkResetReq = false → Searching s n → s.agenda = .tick raw true idle :: rest →
    isComma (alignedWord (raw ++ s.line.rxPrev) s.line.alignOffset.val) = false →
    ∃ t, step s = .next t ∧ t.agenda = rest ∧ t.cfg = s.cfg ∧ t.regs.linkResetReq = false ∧
      t.ports.bitslipRequest = true ∧ t.line.slipCount.toNat = n + 1 ∧
      (n + 1 < failureTicks s.cfg → Searching t (n + 1) ∧ t.regs.cause = s.regs.cause) ∧
      (n + 1 = failureTicks s.cfg → t.line.linkState = .error ∧ t.regs.cause = failureCause s.cfg)) ∧
  (∀ (s : State) (raw : LineWord) (idle : Bool) (rest : List Action), s.cfg.legal = true → s.regs.cause.toNat < 8 →
    s.regs.linkResetReq = false → s.line.linkState = .reset → s.agenda = .tick raw true idle :: rest →
    ∃ t, step s = .next t ∧ t.agenda = rest ∧ t.cfg = s.cfg ∧ t.regs.linkResetReq = false ∧
      t.regs.cause = s.regs.cause ∧ Searching t 0) ∧
  ∀ (s : State) (inputs : List (LineWord × Bool)) (k : Nat), s.cfg.legal = true → s.regs.cause.toNat < 8 →
    s.regs.linkResetReq = false → s.line.linkState = .reset →
    s.agenda = inputs.map (fun x => .tick x.1 true x.2) → k ≤ inputs.length → k ≤ 1 + failureTicks s.cfg →
    (∀ j u, 1 ≤ j → j ≤ k → Host.Core.run Sys2Proof.core j s = .next u → u.ports.commaDetected = false) →
    ∃ t, Host.Core.run Sys2Proof.core k s = .next t ∧
      (t.line.linkState = .error ↔ k = 1 + failureTicks s.cfg) ∧
      (k = 1 + failureTicks s.cfg → t.regs.cause = failureCause s.cfg)

/-! ### The two-endpoint link -/

/-- The channel (46_endpoint.md R275): bit j of the n-th raw word is bit `W*(n-1) + j - δ` of the stream sent, whose bits
below `W` are the channel's content before the first word. -/
def Obligations.ChannelIsDelayLine : Prop :=
  ∀ (c : Channel) (sent : List LineWord) (n j : Nat) (raw : LineWord), c.line < 2 ^ (c.delay + 40) → j < 40 →
    (rawWords c sent)[n]? = some raw →
    raw.getLsbD j =
      if 40 * n + j < c.delay + 40 then c.line.testBit (40 * n + j)
      else (streamBits sent).getD (40 * n + j - (c.delay + 40)) false

/-- Word recovery (41_bitaligner.md R151): with the rotation at δ mod W, the aligned word of a tick is the word the peer
sent `2 + floor(δ / W)` ticks before, bit for bit. -/
def Obligations.WordRecovery : Prop :=
  ∀ (c : Channel) (sent : List LineWord) (j : Nat) (older raw w : LineWord), c.line < 2 ^ (c.delay + 40) →
    sent[j]? = some w → (rawWords c sent)[j + 1 + c.delay / 40]? = some older →
    (rawWords c sent)[j + 2 + c.delay / 40]? = some raw →
    alignedWord (raw ++ older) (c.delay % 40) = w

/-- What is refused, and nothing else (60_exceptions.md R316). A build is legal exactly within the ranges of 00_scope.md
R7 and R8, where a line word has 10 and a stream word 8 bits a lane, and the defaults are those of R7's table; a step of
any other build is refused, and no step of a legal one. A link is refused unless A is a master and B a slave, of legal
builds with one seed (45_bustunnel.md R235; 46_endpoint.md R276; 00_scope.md R9). -/
def Obligations.IllegalBuildsRefused : Prop :=
  (∀ p : Params, p.legal = true ↔
    p.lanes = 4 ∧ (1 ≤ p.txDwell ∧ p.txDwell < 2 ^ 32) ∧ (3 ≤ p.lockCount ∧ p.lockCount < 2 ^ 16) ∧
    (1 ≤ p.alignTimeout ∧ p.alignTimeout < 2 ^ 32) ∧ (1 ≤ p.slipLimit ∧ p.slipLimit < 2 ^ 32) ∧
    (1 ≤ p.confirmWindow ∧ p.confirmWindow < 2 ^ 32) ∧ (1 ≤ p.errThreshold ∧ p.errThreshold < 2 ^ 16) ∧
    (1 ≤ p.txqDepth ∧ p.txqDepth < 2 ^ 16) ∧ (1 ≤ p.rxqDepth ∧ p.rxqDepth < 2 ^ 16) ∧
    p.scrSeed.toNat < 2 ^ 23 ∧ p.linkDownReadValue.toNat < 2 ^ 32 ∧
    (∀ w : LineWord, w.toNat < 2 ^ (10 * p.lanes)) ∧ ∀ d : Word, d.toNat < 2 ^ (8 * p.lanes)) ∧
  (∀ role : Role, Params.default role = {
    role := role, lanes := 4, txDwell := 1024, lockCount := 16, alignTimeout := 65536, slipLimit := 4096
    confirmWindow := 1024, errThreshold := 16, txqDepth := 16, rxqDepth := 16, scrSeed := 0x7FFFFF#23
    linkDownReadValue := 0xFFFFFFFF#32 }) ∧
  (∀ s : State, s.cfg.legal = false → step s = .refused .illegalBuild) ∧
  (∀ (s : State) (r : Refusal), s.cfg.legal = true → step s ≠ .refused r) ∧
  (∀ l : Link, l.a.cfg.role ≠ .master ∨ l.b.cfg.role ≠ .slave → linkStep l = .refused .mismatchedLink) ∧
  (∀ l : Link, l.a.cfg.role = l.b.cfg.role → linkStep l = .refused .mismatchedLink) ∧
  (∀ l : Link, l.a.cfg.scrSeed ≠ l.b.cfg.scrSeed → linkStep l = .refused .mismatchedLink) ∧
  (∀ l : Link, l.a.cfg.legal = false ∨ l.b.cfg.legal = false → linkStep l = .refused .mismatchedLink) ∧
  ∀ (l : Link) (r : Refusal), l.a.cfg.legal = true → l.b.cfg.legal = true → l.a.cfg.role = .master →
    l.b.cfg.role = .slave → l.a.cfg.scrSeed = l.b.cfg.scrSeed → linkStep l ≠ .refused r

end Statements
end

