-- ==== Sys2Proof/Laws/State.lean ====
section
/-! SUPPORT. What each replacement of a part of the state leaves in every field: one lemma per field per update. -/

namespace Sys2Proof.Machine

@[simp] theorem State.putLine_cfg (s : State) (l : Line) : (s.putLine l).cfg = s.cfg := rfl
@[simp] theorem State.putLine_line (s : State) (l : Line) : (s.putLine l).line = l := rfl
@[simp] theorem State.putLine_bridge (s : State) (l : Line) : (s.putLine l).bridge = s.bridge := rfl
@[simp] theorem State.putLine_bus (s : State) (l : Line) : (s.putLine l).bus = s.bus := rfl
@[simp] theorem State.putLine_regs (s : State) (l : Line) : (s.putLine l).regs = s.regs := rfl
@[simp] theorem State.putLine_ports (s : State) (l : Line) : (s.putLine l).ports = s.ports := rfl
@[simp] theorem State.putLine_rx (s : State) (l : Line) : (s.putLine l).rx = s.rx := rfl
@[simp] theorem State.putLine_mem (s : State) (l : Line) : (s.putLine l).mem = s.mem := rfl
@[simp] theorem State.putLine_agenda (s : State) (l : Line) : (s.putLine l).agenda = s.agenda := rfl
@[simp] theorem State.putLine_events (s : State) (l : Line) : (s.putLine l).events = s.events := rfl
@[simp] theorem State.putLine_busLog (s : State) (l : Line) : (s.putLine l).busLog = s.busLog := rfl
@[simp] theorem State.putLine_tick (s : State) (l : Line) : (s.putLine l).tick = s.tick := rfl

@[simp] theorem State.putBridge_cfg (s : State) (b : Bridge) : (s.putBridge b).cfg = s.cfg := rfl
@[simp] theorem State.putBridge_line (s : State) (b : Bridge) : (s.putBridge b).line = s.line := rfl
@[simp] theorem State.putBridge_bridge (s : State) (b : Bridge) : (s.putBridge b).bridge = b := rfl
@[simp] theorem State.putBridge_bus (s : State) (b : Bridge) : (s.putBridge b).bus = s.bus := rfl
@[simp] theorem State.putBridge_regs (s : State) (b : Bridge) : (s.putBridge b).regs = s.regs := rfl
@[simp] theorem State.putBridge_ports (s : State) (b : Bridge) : (s.putBridge b).ports = s.ports := rfl
@[simp] theorem State.putBridge_rx (s : State) (b : Bridge) : (s.putBridge b).rx = s.rx := rfl
@[simp] theorem State.putBridge_mem (s : State) (b : Bridge) : (s.putBridge b).mem = s.mem := rfl
@[simp] theorem State.putBridge_agenda (s : State) (b : Bridge) : (s.putBridge b).agenda = s.agenda := rfl
@[simp] theorem State.putBridge_events (s : State) (b : Bridge) : (s.putBridge b).events = s.events := rfl
@[simp] theorem State.putBridge_busLog (s : State) (b : Bridge) : (s.putBridge b).busLog = s.busLog := rfl
@[simp] theorem State.putBridge_tick (s : State) (b : Bridge) : (s.putBridge b).tick = s.tick := rfl

@[simp] theorem State.putBus_cfg (s : State) (b : Bus) : (s.putBus b).cfg = s.cfg := rfl
@[simp] theorem State.putBus_line (s : State) (b : Bus) : (s.putBus b).line = s.line := rfl
@[simp] theorem State.putBus_bridge (s : State) (b : Bus) : (s.putBus b).bridge = s.bridge := rfl
@[simp] theorem State.putBus_bus (s : State) (b : Bus) : (s.putBus b).bus = b := rfl
@[simp] theorem State.putBus_regs (s : State) (b : Bus) : (s.putBus b).regs = s.regs := rfl
@[simp] theorem State.putBus_ports (s : State) (b : Bus) : (s.putBus b).ports = s.ports := rfl
@[simp] theorem State.putBus_rx (s : State) (b : Bus) : (s.putBus b).rx = s.rx := rfl
@[simp] theorem State.putBus_mem (s : State) (b : Bus) : (s.putBus b).mem = s.mem := rfl
@[simp] theorem State.putBus_agenda (s : State) (b : Bus) : (s.putBus b).agenda = s.agenda := rfl
@[simp] theorem State.putBus_events (s : State) (b : Bus) : (s.putBus b).events = s.events := rfl
@[simp] theorem State.putBus_busLog (s : State) (b : Bus) : (s.putBus b).busLog = s.busLog := rfl
@[simp] theorem State.putBus_tick (s : State) (b : Bus) : (s.putBus b).tick = s.tick := rfl

@[simp] theorem State.putRegs_cfg (s : State) (r : Regs) : (s.putRegs r).cfg = s.cfg := rfl
@[simp] theorem State.putRegs_line (s : State) (r : Regs) : (s.putRegs r).line = s.line := rfl
@[simp] theorem State.putRegs_bridge (s : State) (r : Regs) : (s.putRegs r).bridge = s.bridge := rfl
@[simp] theorem State.putRegs_bus (s : State) (r : Regs) : (s.putRegs r).bus = s.bus := rfl
@[simp] theorem State.putRegs_regs (s : State) (r : Regs) : (s.putRegs r).regs = r := rfl
@[simp] theorem State.putRegs_ports (s : State) (r : Regs) : (s.putRegs r).ports = s.ports := rfl
@[simp] theorem State.putRegs_rx (s : State) (r : Regs) : (s.putRegs r).rx = s.rx := rfl
@[simp] theorem State.putRegs_mem (s : State) (r : Regs) : (s.putRegs r).mem = s.mem := rfl
@[simp] theorem State.putRegs_agenda (s : State) (r : Regs) : (s.putRegs r).agenda = s.agenda := rfl
@[simp] theorem State.putRegs_events (s : State) (r : Regs) : (s.putRegs r).events = s.events := rfl
@[simp] theorem State.putRegs_busLog (s : State) (r : Regs) : (s.putRegs r).busLog = s.busLog := rfl
@[simp] theorem State.putRegs_tick (s : State) (r : Regs) : (s.putRegs r).tick = s.tick := rfl

@[simp] theorem State.putPorts_cfg (s : State) (p : Ports) : (s.putPorts p).cfg = s.cfg := rfl
@[simp] theorem State.putPorts_line (s : State) (p : Ports) : (s.putPorts p).line = s.line := rfl
@[simp] theorem State.putPorts_bridge (s : State) (p : Ports) : (s.putPorts p).bridge = s.bridge := rfl
@[simp] theorem State.putPorts_bus (s : State) (p : Ports) : (s.putPorts p).bus = s.bus := rfl
@[simp] theorem State.putPorts_regs (s : State) (p : Ports) : (s.putPorts p).regs = s.regs := rfl
@[simp] theorem State.putPorts_ports (s : State) (p : Ports) : (s.putPorts p).ports = p := rfl
@[simp] theorem State.putPorts_rx (s : State) (p : Ports) : (s.putPorts p).rx = s.rx := rfl
@[simp] theorem State.putPorts_mem (s : State) (p : Ports) : (s.putPorts p).mem = s.mem := rfl
@[simp] theorem State.putPorts_agenda (s : State) (p : Ports) : (s.putPorts p).agenda = s.agenda := rfl
@[simp] theorem State.putPorts_events (s : State) (p : Ports) : (s.putPorts p).events = s.events := rfl
@[simp] theorem State.putPorts_busLog (s : State) (p : Ports) : (s.putPorts p).busLog = s.busLog := rfl
@[simp] theorem State.putPorts_tick (s : State) (p : Ports) : (s.putPorts p).tick = s.tick := rfl

@[simp] theorem State.putRx_cfg (s : State) (r : RxPath) : (s.putRx r).cfg = s.cfg := rfl
@[simp] theorem State.putRx_line (s : State) (r : RxPath) : (s.putRx r).line = s.line := rfl
@[simp] theorem State.putRx_bridge (s : State) (r : RxPath) : (s.putRx r).bridge = s.bridge := rfl
@[simp] theorem State.putRx_bus (s : State) (r : RxPath) : (s.putRx r).bus = s.bus := rfl
@[simp] theorem State.putRx_regs (s : State) (r : RxPath) : (s.putRx r).regs = s.regs := rfl
@[simp] theorem State.putRx_ports (s : State) (r : RxPath) : (s.putRx r).ports = s.ports := rfl
@[simp] theorem State.putRx_rx (s : State) (r : RxPath) : (s.putRx r).rx = r := rfl
@[simp] theorem State.putRx_mem (s : State) (r : RxPath) : (s.putRx r).mem = s.mem := rfl
@[simp] theorem State.putRx_agenda (s : State) (r : RxPath) : (s.putRx r).agenda = s.agenda := rfl
@[simp] theorem State.putRx_events (s : State) (r : RxPath) : (s.putRx r).events = s.events := rfl
@[simp] theorem State.putRx_busLog (s : State) (r : RxPath) : (s.putRx r).busLog = s.busLog := rfl
@[simp] theorem State.putRx_tick (s : State) (r : RxPath) : (s.putRx r).tick = s.tick := rfl

@[simp] theorem State.putMem_cfg (s : State) (m : List Host.Cell) : (s.putMem m).cfg = s.cfg := rfl
@[simp] theorem State.putMem_line (s : State) (m : List Host.Cell) : (s.putMem m).line = s.line := rfl
@[simp] theorem State.putMem_bridge (s : State) (m : List Host.Cell) : (s.putMem m).bridge = s.bridge := rfl
@[simp] theorem State.putMem_bus (s : State) (m : List Host.Cell) : (s.putMem m).bus = s.bus := rfl
@[simp] theorem State.putMem_regs (s : State) (m : List Host.Cell) : (s.putMem m).regs = s.regs := rfl
@[simp] theorem State.putMem_ports (s : State) (m : List Host.Cell) : (s.putMem m).ports = s.ports := rfl
@[simp] theorem State.putMem_rx (s : State) (m : List Host.Cell) : (s.putMem m).rx = s.rx := rfl
@[simp] theorem State.putMem_mem (s : State) (m : List Host.Cell) : (s.putMem m).mem = m := rfl
@[simp] theorem State.putMem_agenda (s : State) (m : List Host.Cell) : (s.putMem m).agenda = s.agenda := rfl
@[simp] theorem State.putMem_events (s : State) (m : List Host.Cell) : (s.putMem m).events = s.events := rfl
@[simp] theorem State.putMem_busLog (s : State) (m : List Host.Cell) : (s.putMem m).busLog = s.busLog := rfl
@[simp] theorem State.putMem_tick (s : State) (m : List Host.Cell) : (s.putMem m).tick = s.tick := rfl

@[simp] theorem State.putAgenda_cfg (s : State) (a : List Action) : (s.putAgenda a).cfg = s.cfg := rfl
@[simp] theorem State.putAgenda_line (s : State) (a : List Action) : (s.putAgenda a).line = s.line := rfl
@[simp] theorem State.putAgenda_bridge (s : State) (a : List Action) : (s.putAgenda a).bridge = s.bridge := rfl
@[simp] theorem State.putAgenda_bus (s : State) (a : List Action) : (s.putAgenda a).bus = s.bus := rfl
@[simp] theorem State.putAgenda_regs (s : State) (a : List Action) : (s.putAgenda a).regs = s.regs := rfl
@[simp] theorem State.putAgenda_ports (s : State) (a : List Action) : (s.putAgenda a).ports = s.ports := rfl
@[simp] theorem State.putAgenda_rx (s : State) (a : List Action) : (s.putAgenda a).rx = s.rx := rfl
@[simp] theorem State.putAgenda_mem (s : State) (a : List Action) : (s.putAgenda a).mem = s.mem := rfl
@[simp] theorem State.putAgenda_agenda (s : State) (a : List Action) : (s.putAgenda a).agenda = a := rfl
@[simp] theorem State.putAgenda_events (s : State) (a : List Action) : (s.putAgenda a).events = s.events := rfl
@[simp] theorem State.putAgenda_busLog (s : State) (a : List Action) : (s.putAgenda a).busLog = s.busLog := rfl
@[simp] theorem State.putAgenda_tick (s : State) (a : List Action) : (s.putAgenda a).tick = s.tick := rfl

@[simp] theorem State.raise_cfg (s : State) (e : Event) : (s.raise e).cfg = s.cfg := rfl
@[simp] theorem State.raise_line (s : State) (e : Event) : (s.raise e).line = s.line := rfl
@[simp] theorem State.raise_bridge (s : State) (e : Event) : (s.raise e).bridge = s.bridge := rfl
@[simp] theorem State.raise_bus (s : State) (e : Event) : (s.raise e).bus = s.bus := rfl
@[simp] theorem State.raise_regs (s : State) (e : Event) : (s.raise e).regs = s.regs := rfl
@[simp] theorem State.raise_ports (s : State) (e : Event) : (s.raise e).ports = s.ports := rfl
@[simp] theorem State.raise_rx (s : State) (e : Event) : (s.raise e).rx = s.rx := rfl
@[simp] theorem State.raise_mem (s : State) (e : Event) : (s.raise e).mem = s.mem := rfl
@[simp] theorem State.raise_agenda (s : State) (e : Event) : (s.raise e).agenda = s.agenda := rfl
@[simp] theorem State.raise_events (s : State) (e : Event) : (s.raise e).events = s.events ++ [e] := rfl
@[simp] theorem State.raise_busLog (s : State) (e : Event) : (s.raise e).busLog = s.busLog := rfl
@[simp] theorem State.raise_tick (s : State) (e : Event) : (s.raise e).tick = s.tick := rfl

@[simp] theorem State.signal_cfg (s : State) (b : BusSignal) : (s.signal b).cfg = s.cfg := rfl
@[simp] theorem State.signal_line (s : State) (b : BusSignal) : (s.signal b).line = s.line := rfl
@[simp] theorem State.signal_bridge (s : State) (b : BusSignal) : (s.signal b).bridge = s.bridge := rfl
@[simp] theorem State.signal_bus (s : State) (b : BusSignal) : (s.signal b).bus = s.bus := rfl
@[simp] theorem State.signal_regs (s : State) (b : BusSignal) : (s.signal b).regs = s.regs := rfl
@[simp] theorem State.signal_ports (s : State) (b : BusSignal) : (s.signal b).ports = s.ports := rfl
@[simp] theorem State.signal_rx (s : State) (b : BusSignal) : (s.signal b).rx = s.rx := rfl
@[simp] theorem State.signal_mem (s : State) (b : BusSignal) : (s.signal b).mem = s.mem := rfl
@[simp] theorem State.signal_agenda (s : State) (b : BusSignal) : (s.signal b).agenda = s.agenda := rfl
@[simp] theorem State.signal_events (s : State) (b : BusSignal) : (s.signal b).events = s.events := rfl
@[simp] theorem State.signal_busLog (s : State) (b : BusSignal) : (s.signal b).busLog = s.busLog ++ [b] := rfl
@[simp] theorem State.signal_tick (s : State) (b : BusSignal) : (s.signal b).tick = s.tick := rfl

@[simp] theorem State.countTick_cfg (s : State) : (s.countTick).cfg = s.cfg := rfl
@[simp] theorem State.countTick_line (s : State) : (s.countTick).line = s.line := rfl
@[simp] theorem State.countTick_bridge (s : State) : (s.countTick).bridge = s.bridge := rfl
@[simp] theorem State.countTick_bus (s : State) : (s.countTick).bus = s.bus := rfl
@[simp] theorem State.countTick_regs (s : State) : (s.countTick).regs = s.regs := rfl
@[simp] theorem State.countTick_ports (s : State) : (s.countTick).ports = s.ports := rfl
@[simp] theorem State.countTick_rx (s : State) : (s.countTick).rx = s.rx := rfl
@[simp] theorem State.countTick_mem (s : State) : (s.countTick).mem = s.mem := rfl
@[simp] theorem State.countTick_agenda (s : State) : (s.countTick).agenda = s.agenda := rfl
@[simp] theorem State.countTick_events (s : State) : (s.countTick).events = s.events := rfl
@[simp] theorem State.countTick_busLog (s : State) : (s.countTick).busLog = s.busLog := rfl
@[simp] theorem State.countTick_tick (s : State) : (s.countTick).tick = s.tick + 1 := rfl

end Sys2Proof.Machine
end

