-- ==== Sys2Proof/Laws/Bus.lean ====
section
/-! SUPPORT. The operations of the bus domain: for each, what it writes. -/

namespace Sys2Proof.Machine

/-- A message row offers its message to the tunnel. -/
theorem exec_message {i : Instr} {m : Message} (h : messageOf i = some m) (s : State) :
    exec i s = .next (tunnelReceive m s) := by
  unfold messageOf at h
  split at h <;> cases h <;> rfl

/-- Ending a request tells the bus, where a transaction is accepted, and leaves the requester idle. -/
theorem finishRequest_eq (v : Word) (s : State) :
    finishRequest v s =
      { s with
        bus := { s.bus with reqState := .idle, curTxn := none }
        ports := { s.ports with txnIn := if s.bus.curTxn.isSome then none else s.ports.txnIn }
        busLog := match s.bus.curTxn with
          | some t => s.busLog ++ [.complete t v]
          | none => s.busLog } := by
  unfold finishRequest completeCurrent
  cases s.bus.curTxn <;> rfl

/-- A fall-back records its event and its cause. -/
theorem fallBack_eq (f : FallBack) (s : State) :
    fallBack f s =
      { s with regs := { s.regs with cause := f.code }, events := s.events ++ [.fallBack f] } := rfl

/-- `PacketizerStep` moves the head of `pkt_words` to `txq` where there is room. -/
theorem packetizerStep_queues {s : State} {e : TxEntry} {rest : List TxEntry} (hw : s.bus.pktWords = e :: rest)
    (room : s.bridge.txq.length < s.cfg.txqDepth) :
    (packetizerStep s).bridge.txq = s.bridge.txq ++ [e] ∧ (packetizerStep s).bus.pktWords = rest ∧
      (packetizerStep s).bridge.rxq = s.bridge.rxq := by
  unfold packetizerStep frameQueued
  simp only [txqRoom, room, decide_true, if_true, hw]
  refine ⟨?_, ?_, ?_⟩ <;> (repeat' split) <;> simp [enqueueTx, finishRequest_eq]

/-- `PacketizerStep` writes the transmit queue, the bus domain, and what a write's completion writes. -/
theorem packetizerStep_keeps (s : State) :
    let t := packetizerStep s
    t = { s with
      bridge := { s.bridge with txq := t.bridge.txq }
      bus := { s.bus with
        pktWords := t.bus.pktWords, pktAck := t.bus.pktAck, reqState := t.bus.reqState, curTxn := t.bus.curTxn,
        compOp := t.bus.compOp }
      ports := { s.ports with txnIn := t.ports.txnIn }
      busLog := t.busLog } := by
  unfold packetizerStep frameQueued
  split
  · split
    · rfl
    · split
      · rename_i e rest _ _
        simp only [finishRequest_eq, enqueueTx, State.putBridge, State.putBus]
        repeat' split
        all_goals simp_all
      · rfl
  · rfl

/-- The end of a frame delivers its message or counts a drop, and the Depacketizer hunts again. -/
theorem endFrame_eq (hdr addr data w : Word) (s : State) :
    endFrame hdr addr data w s =
      if w = crc32 [hdr, addr, data] ∧ legalHeader hdr = true then
        { s with bus := { s.bus with depState := .hunt, depBuf := [], held := some (decodeMsg hdr addr data) } }
      else
        { s with
          bus := { s.bus with depState := .hunt, depBuf := [] }
          regs := { s.regs with frameDropCount := s.regs.frameDropCount + 1 }
          events := s.events ++ [.frameIntegrity] } := by
  unfold endFrame frameOk
  by_cases h : w = crc32 [hdr, addr, data] ∧ legalHeader hdr = true
  · simp [h, State.putBus]
  · rw [if_neg h, if_neg (by simpa using h)]
    rfl

/-- What the Depacketizer does with an entry, with no step of `FrameOk` to unfold. -/
theorem takeEntry_keeps (e : RxEntry) (s : State) :
    let t := takeEntry e s
    t = { s with
      bus := { s.bus with depState := t.bus.depState, depBuf := t.bus.depBuf, held := t.bus.held }
      regs := { s.regs with frameDropCount := t.regs.frameDropCount }
      events := t.events } := by
  unfold takeEntry
  split <;> try rfl
  unfold collectWord
  split
  · rw [endFrame_eq]
    split <;> rfl
  · rfl

/-- The requester's or the completer's side of a message writes the bus domain, the local bus's port, its log and the
record of events. -/
theorem tunnelReceive_keeps (m : Message) (s : State) :
    let t := tunnelReceive m s
    t = { s with
      bus := { s.bus with
        held := t.bus.held, reqState := t.bus.reqState, curTxn := t.bus.curTxn, pendingRead := t.bus.pendingRead,
        compOp := t.bus.compOp }
      ports := { s.ports with txnIn := t.ports.txnIn }
      events := t.events
      busLog := t.busLog } := by
  unfold tunnelReceive requesterReceive completerReceive
  split
  · split
    · simp only [clearPending, finishRequest_eq, clearHeld, holdMsg, State.putBus]
    · rfl
  · split
    · split
      · rfl
      · split <;> rfl
    · rfl

/-- The end of a local-bus cycle writes the memory, or the frame of the response and `comp_op`. -/
theorem completerBusDone_keeps (v : Option Word) (s : State) :
    let t := completerBusDone v s
    t = { s with
      bus := { s.bus with pktWords := t.bus.pktWords, pktAck := t.bus.pktAck, compOp := t.bus.compOp }
      mem := t.mem } := by
  unfold completerBusDone finishRead
  split <;> try rfl
  split <;> rfl

/-- The memory changes at the end of a write cycle only. -/
theorem completerBusDone_mem (v : Option Word) (s : State) :
    (completerBusDone v s).mem =
      match s.bus.compOp with
      | .busWrite addr data be => memWrite s.mem addr be data
      | _ => s.mem := by
  unfold completerBusDone finishRead
  cases s.bus.compOp <;> try rfl
  dsimp only
  split <;> rfl

/-- A transaction is accepted where R236 holds, and waits on the bus where it does not. -/
theorem offerTxn_eq (accept : BusTxn → State → State) (txn : BusTxn) (s : State) :
    offerTxn accept txn s =
      if requesterFree s = true ∧ (presentTxn txn s).ports.txnIn = some txn then accept txn (presentTxn txn s)
      else presentTxn txn s := by
  have : requesterFree (presentTxn txn s) = requesterFree s := by
    unfold presentTxn; split <;> rfl
  simp [offerTxn, this]

/-- The bus presents a transaction where it presents none. -/
theorem presentTxn_eq (txn : BusTxn) (s : State) :
    presentTxn txn s = { s with ports := { s.ports with txnIn := some (s.ports.txnIn.getD txn) } } := by
  obtain ⟨cfg, line, bridge, bus, regs, ports, rx, mem, agenda, events, busLog, tick⟩ := s
  obtain ⟨a, b, c, d, e, f, g, h, i, j⟩ := ports
  cases d <;> rfl

end Sys2Proof.Machine
end

