-- ==== Sys2Proof/Laws/Tick.lean ====
section
/-! SUPPORT. The operations of a line tick: for each, what it writes, and by the lemmas tagged simp, every part of the
state that it leaves alone. -/

namespace Sys2Proof.Machine

/-! ### Fetching and decoding -/

/-- A row of the line words runs the tick's receive path on its word. -/
theorem exec_lineWord {i : Instr} {w : LineWord} (h : lineWordOf i = some w) (s : State) :
    exec i s = .next (receiveWord w s) := by
  cases i with
  | csrReserved write off val => cases write <;> cases h
  | _ => cases h <;> rfl

/-- A row of the code groups decodes its group in the next lane. -/
theorem exec_codeGroup {i : Instr} {rd : RD} {g : Group} (h : codeGroupOf i = some (rd, g)) (s : State) :
    exec i s = .next (receiveGroup g s) := by
  cases i with
  | csrReserved write off val => cases write <;> cases h
  | _ => cases h <;> rfl

/-- `DecodeWord` writes `dec_rd` and the lanes of the word. -/
theorem receiveLanes_eq (w : LineWord) (s : State) :
    receiveLanes w s =
      (s.putLine { s.line with decRd := (decodeWord w s.line.decRd).2 }).putRx
        { s.rx with lanes := (decodeWord w s.line.decRd).1 } := by
  simp [receiveLanes, splitLanes, receiveGroup, decodeWord, decodeLanes, State.putLine, State.putRx]

/-! ### The aligner -/

@[simp] theorem alignStep_keeps (cfg : Params) (st : LinkState) (c e : Bool) (l : Line) :
    let n := alignStep cfg st c e l
    n.linkState = l.linkState ∧ n.timer = l.timer ∧ n.errCount = l.errCount ∧ n.encRd = l.encRd ∧ n.decRd = l.decRd ∧
      n.rxPrev = l.rxPrev ∧ n.scrState = l.scrState ∧ n.dscrState = l.dscrState ∧ n.txLastIdle = l.txLastIdle := by
  unfold alignStep huntComma huntSlip driftCheck
  repeat' split
  all_goals simp

/-- Outside a hunting tick and a locked one the aligner does nothing. -/
theorem alignStep_frozen {cfg : Params} {st : LinkState} {c e : Bool} {l : Line} (hunt : hunting st l = false)
    (locked : l.lock = false ∨ st = .error) : alignStep cfg st c e l = l := by
  unfold alignStep
  rw [hunt]
  obtain h | h := locked <;> simp [h]

/-! ### The trainer -/

/-- The trainer writes the timer and the error count of the line domain, and of the registers the cause and the
request. -/
theorem trainStep_keeps (st : LinkState) (cls : WordClass) (s : State) :
    let t := (trainStep st cls s).2
    t = { s with
      line := { s.line with timer := t.line.timer, errCount := t.line.errCount }
      regs := { s.regs with cause := t.regs.cause, linkResetReq := t.regs.linkResetReq }
      events := t.events } := by
  unfold trainStep
  split
  · rfl
  · split
    · rfl
    · cases st
      · rfl
      · simp only [trainSendTraining]; repeat' split
        all_goals rfl
      · simp only [trainWaitAlign]; repeat' split
        all_goals rfl
      · simp only [trainAligned]; repeat' split
        all_goals rfl
      · simp only [trainReady]; repeat' split
        all_goals rfl
      · rfl

/-- Counting a code violation writes the counter and the event. -/
theorem countViolation_keeps (st : LinkState) (cls : WordClass) (s : State) :
    let t := countViolation st cls s
    t = { s with regs := { s.regs with decodeErrorCount := t.regs.decodeErrorCount }, events := t.events } := by
  unfold countViolation; split <;> rfl

/-! ### Receive delivery -/

/-- An entry is appended where there is room, and lost with RX_OVERFLOW set where there is none. -/
theorem deliver_eq (e : RxEntry) (s : State) :
    deliver e s =
      if s.bridge.rxq.length < s.cfg.rxqDepth then
        { s with bridge := { s.bridge with rxq := s.bridge.rxq ++ [e] } }
      else { s with regs := { s.regs with rxOverflow := true }, events := s.events ++ [.rxOverflow] } := by
  unfold deliver rxqRoom
  by_cases h : s.bridge.rxq.length < s.cfg.rxqDepth <;>
    simp [h, enqueueRx, State.putBridge, State.putRegs, State.raise]

/-- Delivery writes the descrambler, the receive queue and RX_OVERFLOW. -/
theorem receiveDelivery_keeps (cls : WordClass) (s : State) :
    let t := receiveDelivery cls s
    t = { s with
      line := { s.line with dscrState := t.line.dscrState }
      bridge := { s.bridge with rxq := t.bridge.rxq }
      regs := { s.regs with rxOverflow := t.regs.rxOverflow }
      events := t.events } := by
  unfold receiveDelivery
  cases cls <;> simp only [deliver_eq]
  · split <;> rfl
  · split <;> split <;> rfl
  · split <;> rfl

/-- Delivery never leaves more entries than there is room for. -/
theorem receiveDelivery_room {cls : WordClass} {s : State} (h : s.bridge.rxq.length ≤ s.cfg.rxqDepth) :
    (receiveDelivery cls s).bridge.rxq.length ≤ s.cfg.rxqDepth := by
  have room : ∀ (e : RxEntry) (u : State), u.bridge = s.bridge → u.cfg = s.cfg →
      (deliver e u).bridge.rxq.length ≤ s.cfg.rxqDepth := by
    intro e u hb hc
    rw [deliver_eq, hb, hc]
    split
    · simpa using by omega
    · simpa [hb] using h
  unfold receiveDelivery
  cases cls
  · exact h
  · exact room _ _ rfl rfl
  · dsimp only; split <;> exact room _ _ rfl rfl
  · exact room _ _ rfl rfl

/-! ### Transmit -/

/-- A word is encoded from `enc_rd` and driven. -/
theorem sendWord_eq (word : TxWord) (s : State) :
    sendWord word s =
      { s with
        line := { s.line with encRd := (encodeWord word s.line.encRd).2, txLastIdle := word == .idle }
        ports := { s.ports with tx := (encodeWord word s.line.encRd).1 } } := rfl

/-- Transmit selection writes the encoder, the scrambler, the transmit queue and `tx`. -/
theorem transmit_keeps (st : LinkState) (s : State) :
    let t := transmit st s
    t = { s with
      line := { s.line with
        encRd := t.line.encRd, scrState := t.line.scrState, txLastIdle := t.line.txLastIdle }
      bridge := { s.bridge with txq := t.bridge.txq }
      ports := { s.ports with tx := t.ports.tx } } := by
  unfold transmit
  split
  · split
    · rename_i e _
      cases e with
      | sof => simp only [sendEntry, sendWord_eq, dequeueTx, State.putLine, State.putBridge]
      | data d =>
        simp only [sendEntry]
        split <;> simp only [sendWord_eq, dequeueTx, State.putLine, State.putBridge]
    · simp only [sendWord_eq]
  · simp only [sendWord_eq]

/-- The transmit queue keeps its entries or loses its head. -/
theorem transmit_txq (st : LinkState) (s : State) :
    (transmit st s).bridge.txq = s.bridge.txq ∨ (transmit st s).bridge.txq = s.bridge.txq.tail := by
  unfold transmit
  split
  · split
    · rename_i e _
      cases e with
      | sof => exact .inr rfl
      | data d =>
        simp only [sendEntry]
        split <;> simp [sendWord_eq, dequeueTx]
    · exact .inl rfl
  · exact .inl rfl

/-- The end of a tick writes the link state and the status outputs. -/
theorem finishTick_eq (next : LinkState) (comma slip : Bool) (s : State) :
    finishTick next comma slip s =
      { s with
        line := { s.line with linkState := next }
        ports := { s.ports with commaDetected := comma, bitslipRequest := slip, delayCalibrate := false } } := rfl

/-! ### The RESET tick -/

/-- The tunnel's part of a link reset writes the bus domain, the local bus's port and its log. -/
theorem tunnelLinkReset_keeps (s : State) :
    let t := tunnelLinkReset s
    t = { s with bus := t.bus, ports := { s.ports with txnIn := t.ports.txnIn }, busLog := t.busLog } := by
  unfold tunnelLinkReset requesterLinkReset clearPending finishRequest completeCurrent
  cases s.cfg.role
  · cases s.bus.reqState <;> first | rfl | (cases s.bus.curTxn <;> rfl)
  · rfl

/-- What a link reset leaves of `comp_op`: unchanged at a requester, marked stale or dropped at a completer. -/
theorem tunnelLinkReset_compOp (s : State) :
    (tunnelLinkReset s).bus.compOp =
      match s.cfg.role with
      | .master => s.bus.compOp
      | .slave => s.bus.compOp.linkReset := by
  unfold tunnelLinkReset requesterLinkReset clearPending finishRequest completeCurrent
  cases s.cfg.role
  · cases s.bus.reqState <;> rfl
  · rfl

/-- Leaving RESET writes the link state or takes the request. -/
theorem leaveReset_eq (s : State) :
    leaveReset s =
      { s with
        line := { s.line with
          linkState := if s.regs.linkResetReq = false ∧ s.regs.phyReadyLast = true then .sendTraining
            else s.line.linkState }
        regs := { s.regs with linkResetReq := false } } := by
  obtain ⟨cfg, line, bridge, bus, regs, ports, rx, mem, agenda, events, busLog, tick⟩ := s
  obtain ⟨b, l, c, o, f, d, i, p⟩ := regs
  cases l <;> cases p <;> rfl

/-- The whole of a RESET tick, after the inputs are sampled. -/
theorem resetTick_eq (s : State) :
    resetTick s =
      { s with
        line := { Line.reset s.cfg with
          rxPrev := s.line.rxPrev, encRd := (encodeWord .idle .neg).2
          linkState := if s.regs.linkResetReq = false ∧ s.regs.phyReadyLast = true then .sendTraining else .reset }
        bridge := Bridge.reset
        bus := { Bus.reset with compOp := (tunnelLinkReset s).bus.compOp }
        regs := { s.regs with linkResetReq := false }
        ports := { s.ports with
          txnIn := (tunnelLinkReset s).ports.txnIn, tx := (encodeWord .idle .neg).1, commaDetected := false,
          bitslipRequest := false, delayCalibrate := true }
        busLog := (tunnelLinkReset s).busLog } := by
  obtain ⟨b, p, l, h⟩ : ∃ b p l, tunnelLinkReset s =
      { s with bus := b, ports := { s.ports with txnIn := p }, busLog := l } := ⟨_, _, _, tunnelLinkReset_keeps s⟩
  unfold resetTick
  rw [leaveReset_eq, h]
  simp [driveReset, resetLinkScope, Line.reset, State.putLine, State.putBridge, State.putBus, State.putPorts]
  congr

end Sys2Proof.Machine
end

