-- ==== Sys2Proof/Laws/Codec.lean ====
section
/-! SUPPORT. The LineCodec: what a decoded group, word or instruction says about the bits it came from. -/

namespace Sys2Proof.Machine

/-- The 4b part of a group put together from its sub-blocks. -/
@[simp] theorem fghj_append (a : BitVec 4) (b : BitVec 6) : fghj (a ++ b) = a := by
  revert a b
  decide +kernel

/-- The 6b part of a group put together from its sub-blocks. -/
@[simp] theorem abcdei_append (a : BitVec 4) (b : BitVec 6) : abcdei (a ++ b) = b := by
  revert a b
  decide +kernel

/-- The RD after an encoded group is `RdAfter` of it (40_linecodec.md R118). -/
theorem encodeSymbol_rd (sym : Symbol) (rd : RD) : (encodeSymbol sym rd).2 = rdAfter (encodeSymbol sym rd).1 rd := by
  simp [encodeSymbol, rdAfter]

/-- A byte found for a group is encoded as that group. -/
theorem dataByteOf?_sound {g : Group} {rd : RD} {v : Byte} (h : dataByteOf? g rd = some v) :
    (encodeSymbol (.data v) rd).1 = g := by
  unfold dataByteOf? at h
  obtain ⟨x, _, hx⟩ := List.exists_of_findSome?_eq_some h
  split at hx
  · obtain ⟨y, _, hy⟩ := List.exists_of_findSome?_eq_some hx
    split at hy
    · rename_i he
      cases hy
      simpa using he
    · cases hy
  · cases hx

/-- A symbol found for a group is encoded as that group. -/
theorem symbolOf?_sound {g : Group} {rd : RD} {sym : Symbol} (h : symbolOf? g rd = some sym) :
    (encodeSymbol sym rd).1 = g := by
  unfold symbolOf? at h
  split at h
  · rename_i he; cases h; simpa using he
  · split at h
    · rename_i he; cases h; simpa using he
    · cases hv : dataByteOf? g rd with
      | none => rw [hv] at h; cases h
      | some v => rw [hv] at h; cases h; exact dataByteOf?_sound hv

/-- A lane decodes as Valid only to a symbol that is encoded as its group, with the same RD after it. -/
theorem decodeLane_sound {g : Group} {rd : RD} {sym : Symbol} (h : (decodeLane g rd).1 = .valid sym) :
    encodeSymbol sym rd = (g, (decodeLane g rd).2) := by
  have hs : symbolOf? g rd = some sym := by
    unfold decodeLane at h
    cases hv : symbolOf? g rd with
    | none => rw [hv] at h; cases h
    | some s => rw [hv] at h; cases h; rfl
  have hg := symbolOf?_sound hs
  exact Prod.ext hg (by rw [encodeSymbol_rd, hg]; rfl)

/-- Lanes that all decode are the encoding of their symbols. -/
theorem decodeLanes_sound {gs : List Group} {rd : RD} {syms : List Symbol}
    (h : (decodeLanes gs rd).1 = syms.map .valid) : encodeLanes syms rd = (gs, (decodeLanes gs rd).2) := by
  induction gs generalizing rd syms with
  | nil =>
    cases syms with
    | nil => rfl
    | cons a as => cases h
  | cons g rest ih =>
    cases syms with
    | nil => cases h
    | cons a as =>
      simp only [decodeLanes, List.map_cons, List.cons.injEq] at h
      have hg := decodeLane_sound h.1
      simp only [encodeLanes, hg, decodeLanes]
      rw [ih h.2]

/-- A line word is its four lanes (30_encoding.md R81). -/
theorem joinLanes_splitLanes (w : LineWord) : joinLanes (splitLanes w) = w := by
  ext i h
  simp only [joinLanes, splitLanes, List.getD_cons_zero, List.getD_cons_succ, laneOf]
  simp only [← BitVec.getLsbD_eq_getElem, BitVec.getLsbD_append, BitVec.getLsbD_extractLsb']
  split
  · rename_i h1; simp [h1]
  · split
    · rename_i h1 h2
      have : 10 + (i - 10) = i := by omega
      simp [h2, this]
    · split
      · rename_i h1 h2 h3
        have h4 : i - 10 - 10 = i - 20 := by omega
        have : 20 + (i - 20) = i := by omega
        rw [h4] at h3 ⊢
        simp [h3, this]
      · rename_i h1 h2 h3
        have h4 : i - 10 - 10 - 10 = i - 30 := by omega
        have h5 : i - 30 < 10 := by omega
        have : 30 + (i - 30) = i := by omega
        rw [h4]
        simp [h5, this]

/-- A word whose lanes all decode is the encoding of their symbols. -/
theorem decodeWord_sound {w : LineWord} {rd : RD} {word : TxWord}
    (h : (decodeWord w rd).1 = word.symbols.map .valid) : encodeWord word rd = (w, (decodeWord w rd).2) := by
  have := decodeLanes_sound h
  simp only [encodeWord, this, joinLanes_splitLanes, decodeWord]

/-- Byte i of a word put together from its bytes. -/
theorem byteOf_join (b0 b1 b2 b3 : Byte) :
    byteOf (b3 ++ b2 ++ b1 ++ b0) 0 = b0 ∧ byteOf (b3 ++ b2 ++ b1 ++ b0) 1 = b1 ∧
      byteOf (b3 ++ b2 ++ b1 ++ b0) 2 = b2 ∧ byteOf (b3 ++ b2 ++ b1 ++ b0) 3 = b3 := by
  refine ⟨?_, ?_, ?_, ?_⟩ <;> unfold byteOf <;> apply BitVec.eq_of_getLsbD_eq <;> intro i h <;>
    simp only [BitVec.getLsbD_extractLsb', BitVec.getLsbD_append, h, decide_true, Bool.true_and] <;>
    (repeat' split) <;> first | omega | (congr 1; omega)

/-- What a classified word's lanes were (40_linecodec.md R123). -/
theorem classify_sound {res : List LaneResult} {cls : WordClass} (h : classify res = cls) :
    (cls = .idle → res = TxWord.idle.symbols.map .valid) ∧ (cls = .sof → res = TxWord.sof.symbols.map .valid) ∧
      (∀ d, cls = .data d → res = (TxWord.data d).symbols.map .valid) := by
  have byte : ∀ {r : LaneResult} {b : Byte}, r.byte? = some b → r = .valid (.data b) := by
    intro r b hb
    match r, hb with
    | .valid (.data v), hb => cases hb; rfl
  unfold classify at h
  split at h
  · rename_i he
    subst h
    exact ⟨fun _ => he, by simp, by simp⟩
  · split at h
    · rename_i he
      subst h
      exact ⟨by simp, fun _ => he, by simp⟩
    · split at h
      · rename_i b0 b1 b2 b3 he
        subst h
        refine ⟨by simp, by simp, fun d hd => ?_⟩
        cases hd
        simp only [List.map_eq_cons_iff, List.map_eq_nil_iff] at he
        obtain ⟨r0, l1, rfl, h0, r1, l2, rfl, h1, r2, l3, rfl, h2, r3, l4, rfl, h3, rfl⟩ := he
        obtain ⟨j0, j1, j2, j3⟩ := byteOf_join b0 b1 b2 b3
        simp only [TxWord.symbols, j0, j1, j2, j3, List.map_cons, List.map_nil]
        rw [byte h0, byte h1, byte h2, byte h3]
      · subst h
        exact ⟨by simp, by simp, by simp⟩

/-- The instruction a line word decodes to is a row for that very word (30_encoding.md R91). -/
theorem lineWordOf_decodeLine (rd : RD) (w : LineWord) : lineWordOf (decodeLine rd w) = some w := by
  unfold decodeLine
  have hs := classify_sound (res := (decodeWord w rd).1) rfl
  split
  · rename_i hc
    have := congrArg Prod.fst (decodeWord_sound (hs.1 hc))
    simp only at this
    subst this
    cases rd <;> decide +kernel
  · rename_i hc
    have := congrArg Prod.fst (decodeWord_sound (hs.2.1 hc))
    simp only at this
    subst this
    cases rd <;> decide +kernel
  · rename_i d hc
    have := congrArg Prod.fst (decodeWord_sound (hs.2.2 d hc))
    simp only at this
    exact congrArg some this
  · rfl

/-- The instruction a group decodes to is a row for that very group (30_encoding.md R91, R92). -/
theorem codeGroupOf_decodeGroup (rd : RD) (g : Group) : codeGroupOf (decodeGroup rd g) = some (rd, g) := by
  have rows : ∀ r ∈ codeRows, ∀ rd, codeGroupOf (column r.2 rd) = some (rd, column r.1 rd) := by
    have : codeRows.all (fun r => [RD.neg, .pos].all fun rd =>
        codeGroupOf (column r.2 rd) == some (rd, column r.1 rd)) = true := by decide +kernel
    intro r hr rd
    have := List.all_eq_true.mp (List.all_eq_true.mp this r hr) rd (by cases rd <;> simp)
    simpa using this
  unfold decodeGroup
  split
  · rename_i r hr
    have := List.find?_some hr
    rw [rows r (List.mem_of_find?_eq_some hr)]
    simp_all
  · rfl

end Sys2Proof.Machine
end

