-- ==== Sys2Proof/Laws/Memory.lean ====
section
/-! SUPPORT. The laws of the local-bus memory: a byte reads as it was last written, every operation keeps the canonical
form, and two words in that form that read alike are equal. -/

namespace Sys2Proof.Machine

/-- A list in the form from `lo` on holds nothing below `lo`. -/
theorem Memory.read_below {lo a : Nat} {m : List Host.Cell} (h : Memory.wfFrom lo m = true) (ha : a < lo) :
    Memory.read m a = Memory.unlisted := by
  induction m generalizing lo with
  | nil => rfl
  | cons c rest ih =>
    obtain ⟨x, v⟩ := c
    simp only [Memory.wfFrom, Bool.and_eq_true, decide_eq_true_eq] at h
    have hne : a ≠ x := by omega
    simp only [Memory.read, if_neg hne]
    exact ih h.2 (by omega)

/-- The form may be read from any lower bound. -/
theorem Memory.wfFrom_mono {lo lo' : Nat} {m : List Host.Cell} (h : Memory.wfFrom lo m = true) (hle : lo' ≤ lo) :
    Memory.wfFrom lo' m = true := by
  cases m with
  | nil => rfl
  | cons c rest =>
    obtain ⟨x, v⟩ := c
    simp only [Memory.wfFrom, Bool.and_eq_true, decide_eq_true_eq] at h ⊢
    exact ⟨⟨by omega, h.1.2⟩, h.2⟩

/-- A write keeps the form above every bound that its address meets. -/
theorem Memory.wfFrom_write {lo a : Nat} {b : Byte} {m : List Host.Cell} (h : Memory.wfFrom lo m = true)
    (ha : lo ≤ a) : Memory.wfFrom lo (Memory.write m a b) = true := by
  induction m generalizing lo with
  | nil => by_cases hb : b = Memory.unlisted <;> simp [Memory.write, Memory.wfFrom, hb, ha]
  | cons c rest ih =>
    obtain ⟨x, v⟩ := c
    simp only [Memory.wfFrom, Bool.and_eq_true, decide_eq_true_eq] at h
    obtain ⟨⟨hx, hv⟩, hrest⟩ := h
    simp only [Memory.write]
    split
    · split
      · simp [Memory.wfFrom, hx, hv, hrest]
      · rename_i hlt hb
        have : a + 1 ≤ x := hlt
        simp [Memory.wfFrom, ha, hb, this, hv, hrest]
    · split
      · rename_i hax
        subst hax
        split
        · exact Memory.wfFrom_mono hrest (by omega)
        · rename_i hb
          simp [Memory.wfFrom, hx, hb, hrest]
      · have := ih hrest (by omega)
        simp [Memory.wfFrom, hx, hv, this]

/-- A write keeps the canonical form. -/
theorem Memory.wf_write {a : Nat} {b : Byte} {m : List Host.Cell} (h : Memory.wf m = true) :
    Memory.wf (Memory.write m a b) = true := Memory.wfFrom_write h (Nat.zero_le a)

/-- A byte reads as it was last written. -/
theorem Memory.read_write {lo a : Nat} {b : Byte} {m : List Host.Cell} (h : Memory.wfFrom lo m = true) (x : Nat) :
    Memory.read (Memory.write m a b) x = if x = a then b else Memory.read m x := by
  induction m generalizing lo with
  | nil => by_cases hb : b = Memory.unlisted <;> by_cases hx : x = a <;> simp [Memory.write, Memory.read, hb, hx]
  | cons c rest ih =>
    obtain ⟨y, v⟩ := c
    have hfull := h
    simp only [Memory.wfFrom, Bool.and_eq_true, decide_eq_true_eq] at h
    obtain ⟨⟨_, _⟩, hrest⟩ := h
    simp only [Memory.write]
    split
    · rename_i hlt
      have hbelow : Memory.read ((y, v) :: rest) a = Memory.unlisted := by
        have : Memory.wfFrom y ((y, v) :: rest) = true := by
          simp only [Memory.wfFrom, Bool.and_eq_true, decide_eq_true_eq] at hfull ⊢
          exact ⟨⟨Nat.le_refl y, hfull.1.2⟩, hfull.2⟩
        exact Memory.read_below this hlt
      split
      · rename_i hb
        by_cases hx : x = a
        · rw [if_pos hx, hx, hbelow, hb]
        · rw [if_neg hx]
      · by_cases hx : x = a <;> simp [Memory.read, hx]
    · split
      · rename_i hay
        subst hay
        have hbelow : Memory.read rest a = Memory.unlisted := Memory.read_below hrest (by omega)
        split
        · rename_i hb
          by_cases hx : x = a
          · rw [if_pos hx, hx, hbelow, hb]
          · simp [Memory.read, hx]
        · by_cases hx : x = a <;> simp [Memory.read, hx]
      · rename_i hay
        by_cases hxy : x = y
        · have : x ≠ a := by omega
          subst hxy
          simp [Memory.read, this]
        · simp only [Memory.read, if_neg hxy]
          exact ih hrest

/-- A byte-enabled lane write keeps the canonical form. -/
theorem wf_writeLane {addr : Word} {be : ByteEnable} {data : Word} {m : List Host.Cell} {i : Nat}
    (h : Memory.wf m = true) : Memory.wf (writeLane addr be data m i) = true := by
  unfold writeLane; split
  · exact Memory.wf_write h
  · exact h

/-- `MemWrite` keeps the canonical form. -/
theorem wf_memWrite {addr : Word} {be : ByteEnable} {data : Word} {m : List Host.Cell} (h : Memory.wf m = true) :
    Memory.wf (memWrite m addr be data) = true := by
  simp only [memWrite, List.foldl]
  exact wf_writeLane (wf_writeLane (wf_writeLane (wf_writeLane h)))

/-- What a byte reads as after one byte-enabled lane is written. -/
theorem read_writeLane {addr : Word} {be : ByteEnable} {data : Word} {m : List Host.Cell} {i : Nat}
    (h : Memory.wf m = true) (x : Nat) :
    Memory.read (writeLane addr be data m i) x =
      if be.getLsbD i = true ∧ x = byteAddress addr i then byteOf data i else Memory.read m x := by
  unfold writeLane
  split
  · rename_i hbe
    rw [Memory.read_write h]
    simp [hbe]
  · rename_i hbe
    simp [hbe]

/-- The memory at reset has the canonical form. -/
theorem Memory.wf_reset (cfg : Params) : Memory.wf (State.resetOf cfg).mem = true := rfl

end Sys2Proof.Machine
end

