-- ==== Sys2Proof/Laws/Receive.lean ====
section
/-! SUPPORT. The whole of a line tick's receive path in one equation: each part of the state after it, from the state
before it. -/

namespace Sys2Proof.Machine

/-- The trainer reads the build, its request, `phy_ready` and cause, and of the line domain the lock, the slips and its two
counters. -/
theorem trainStep_congr {st : LinkState} {cls : WordClass} {s u : State} (hc : s.cfg = u.cfg)
    (h1 : s.regs.linkResetReq = u.regs.linkResetReq) (h2 : s.regs.phyReadyLast = u.regs.phyReadyLast)
    (h3 : s.regs.cause = u.regs.cause) (h4 : s.line.lock = u.line.lock) (h5 : s.line.slipCount = u.line.slipCount)
    (h6 : s.line.timer = u.line.timer) (h7 : s.line.errCount = u.line.errCount) :
    (trainStep st cls s).1 = (trainStep st cls u).1 ∧
      (trainStep st cls s).2.line.timer = (trainStep st cls u).2.line.timer ∧
      (trainStep st cls s).2.line.errCount = (trainStep st cls u).2.line.errCount ∧
      (trainStep st cls s).2.regs.cause = (trainStep st cls u).2.regs.cause ∧
      (trainStep st cls s).2.regs.linkResetReq = (trainStep st cls u).2.regs.linkResetReq := by
  unfold trainStep
  rw [h1, h2]
  split
  · exact ⟨rfl, h6, h7, rfl, rfl⟩
  · split
    · exact ⟨rfl, h6, h7, rfl, h1⟩
    · cases st with
      | reset => exact ⟨rfl, h6, h7, h3, h1⟩
      | error => exact ⟨rfl, h6, h7, h3, h1⟩
      | sendTraining =>
        simp only [trainSendTraining, exhausted, limitReached, hc, h5, h6]
        by_cases a : u.cfg.slipLimit ≤ u.line.slipCount.toNat <;>
          by_cases b : u.cfg.txDwell ≤ u.line.timer.toNat + 1 <;>
          simp [a, b, fallTo, fallBack, enter, stay, h1, h3, h6, h7]
      | waitAlign =>
        simp only [trainWaitAlign, exhausted, limitReached, hc, h4, h5, h6]
        by_cases a : u.line.lock = true <;> by_cases b : u.cfg.slipLimit ≤ u.line.slipCount.toNat <;>
          by_cases c : u.cfg.alignTimeout ≤ u.line.timer.toNat + 1 <;>
          simp [a, b, c, fallTo, fallBack, enter, stay, h1, h3, h6, h7]
      | aligned =>
        simp only [trainAligned, limitReached, hc, h4, h6]
        by_cases a : u.line.lock = true <;> by_cases b : cls = .err <;>
          by_cases c : u.cfg.confirmWindow ≤ u.line.timer.toNat + 1 <;>
          simp [a, b, c, fallTo, fallBack, stay, h1, h3, h6, h7]
      | ready =>
        have hn : nextErrCount cls s.line = nextErrCount cls u.line := by unfold nextErrCount; rw [h7]
        simp only [trainReady, hc, h4, hn]
        by_cases a : u.line.lock = true <;> by_cases b : u.cfg.errThreshold ≤ nextErrCount cls u.line <;>
          simp [a, b, fallTo, fallBack, h1, h3, h6, h7]

/-- Delivery reads the build, the bypass, the descrambler and the receive queue. -/
theorem receiveDelivery_congr {cls : WordClass} {s u : State} (hc : s.cfg = u.cfg)
    (h1 : s.regs.scrBypass = u.regs.scrBypass) (h2 : s.line.dscrState = u.line.dscrState)
    (h3 : s.bridge.rxq = u.bridge.rxq) (h4 : s.regs.rxOverflow = u.regs.rxOverflow) :
    (receiveDelivery cls s).line.dscrState = (receiveDelivery cls u).line.dscrState ∧
      (receiveDelivery cls s).bridge.rxq = (receiveDelivery cls u).bridge.rxq ∧
      (receiveDelivery cls s).regs.rxOverflow = (receiveDelivery cls u).regs.rxOverflow := by
  have key : ∀ (e : RxEntry) (s u : State), s.cfg = u.cfg → s.line.dscrState = u.line.dscrState →
      s.bridge.rxq = u.bridge.rxq → s.regs.rxOverflow = u.regs.rxOverflow →
      (deliver e s).line.dscrState = (deliver e u).line.dscrState ∧
        (deliver e s).bridge.rxq = (deliver e u).bridge.rxq ∧
        (deliver e s).regs.rxOverflow = (deliver e u).regs.rxOverflow := by
    intro e s u hc hd hq ho
    rw [deliver_eq, deliver_eq, hc, hq]
    split
    · exact ⟨hd, rfl, ho⟩
    · exact ⟨hd, hq, rfl⟩
  unfold receiveDelivery
  cases cls with
  | idle => exact ⟨h2, h3, h4⟩
  | sof => exact key _ _ _ hc (by simp [hc]) h3 h4
  | data r =>
    dsimp only
    rw [h1]
    split
    · exact key _ _ _ hc h2 h3 h4
    · rw [h2]
      exact key _ _ _ hc rfl h3 h4
  | err => exact key _ _ _ hc h2 h3 h4

/-- Transmit selection reads the build, the bypass, the encoder, the scrambler, the gap flag and the transmit queue. -/
theorem transmit_congr {st : LinkState} {s u : State} (hc : s.cfg = u.cfg) (h1 : s.regs.scrBypass = u.regs.scrBypass)
    (h2 : s.line.encRd = u.line.encRd) (h3 : s.line.scrState = u.line.scrState)
    (h4 : s.line.txLastIdle = u.line.txLastIdle) (h5 : s.bridge.txq = u.bridge.txq) :
    (transmit st s).line.encRd = (transmit st u).line.encRd ∧
      (transmit st s).line.scrState = (transmit st u).line.scrState ∧
      (transmit st s).line.txLastIdle = (transmit st u).line.txLastIdle ∧
      (transmit st s).bridge.txq = (transmit st u).bridge.txq ∧
      (transmit st s).ports.tx = (transmit st u).ports.tx := by
  have hs : sendable s = sendable u := by unfold sendable; rw [h4, h5]
  unfold transmit
  rw [hs]
  split
  · split
    · rename_i e _
      cases e with
      | sof => simp [sendEntry, sendWord_eq, dequeueTx, hc, h2, h5]
      | data d =>
        simp only [sendEntry]
        have hb : (dequeueTx s).regs.scrBypass = (dequeueTx u).regs.scrBypass := h1
        rw [hb]
        split <;> simp [sendWord_eq, dequeueTx, h2, h3, h5]
    · simp [sendWord_eq, h2, h3, h5]
  · simp [sendWord_eq, h2, h3, h5]

/-- A line tick outside RESET, in one equation. -/
theorem receiveIn_eq (st : LinkState) (w : LineWord) (s : State) :
    let l := alignStep s.cfg st (isComma w) (commaElsewhere s.rx.window s.line.alignOffset) s.line
    let cls := classHere w s
    let trained := trainStep st cls (s.putLine l)
    let delivered := if st = .ready then receiveDelivery cls s else s
    let sent := transmit st s
    receiveIn st w s = { s with
      line := {
        linkState := trained.1, timer := trained.2.line.timer, errCount := trained.2.line.errCount
        encRd := sent.line.encRd, decRd := (decodeWord w s.line.decRd).2, rxPrev := s.line.rxPrev
        alignOffset := l.alignOffset, lock := l.lock, commaRun := l.commaRun, driftRun := l.driftRun
        slipCount := l.slipCount, scrState := sent.line.scrState, dscrState := delivered.line.dscrState
        txLastIdle := sent.line.txLastIdle }
      bridge := { txq := sent.bridge.txq, rxq := delivered.bridge.rxq }
      regs := { s.regs with
        linkResetReq := trained.2.regs.linkResetReq, cause := trained.2.regs.cause
        rxOverflow := delivered.regs.rxOverflow
        decodeErrorCount := (countViolation st cls s).regs.decodeErrorCount }
      ports := { s.ports with
        tx := sent.ports.tx, commaDetected := isComma w, bitslipRequest := slips st (isComma w) s.line
        delayCalibrate := false }
      rx := { s.rx with lanes := (decodeWord w s.line.decRd).1 }
      events := (receiveIn st w s).events } := by
  intro l cls trained delivered sent
  -- the states between the steps of the tick
  generalize hR : receiveLanes w (alignTick st (isComma w) s) = R
  have aligned : alignTick st (isComma w) s = s.putLine l := rfl
  have keeps := alignStep_keeps s.cfg st (isComma w) (commaElsewhere s.rx.window s.line.alignOffset) s.line
  simp only at keeps
  obtain ⟨_, k2, k3, k4, k5, k6, k7, k8, k9⟩ := keeps
  have hRe : R = { s with
      line := { l with decRd := (decodeWord w s.line.decRd).2 }
      rx := { s.rx with lanes := (decodeWord w s.line.decRd).1 } } := by
    rw [← hR, aligned, receiveLanes_eq]
    simp only [State.putLine, State.putRx]
    rw [show l.decRd = s.line.decRd from k5]
  have hcls : classify R.rx.lanes = cls := by rw [hRe]; rfl
  generalize hV : countViolation st cls R = V
  have hVe := countViolation_keeps st cls R
  simp only [hV] at hVe
  have hVd : V.regs.decodeErrorCount = (countViolation st cls s).regs.decodeErrorCount := by
    rw [← hV, hRe]; unfold countViolation; split <;> rfl
  generalize hT : trainStep st cls V = T
  have hTe := trainStep_keeps st cls V
  simp only [hT] at hTe
  have hTc := trainStep_congr (st := st) (cls := cls) (s := V) (u := s.putLine l)
    (by rw [hVe, hRe]; rfl) (by rw [hVe, hRe]; rfl) (by rw [hVe, hRe]; rfl) (by rw [hVe, hRe]; rfl)
    (by rw [hVe, hRe]; rfl) (by rw [hVe, hRe]; rfl) (by rw [hVe, hRe]; rfl) (by rw [hVe, hRe]; rfl)
  rw [hT] at hTc
  obtain ⟨t1, t2, t3, t4, t5⟩ := hTc
  generalize hD : (if st = .ready then receiveDelivery cls T.2 else T.2) = D
  have hDe : D = { T.2 with
      line := { T.2.line with dscrState := delivered.line.dscrState }
      bridge := { T.2.bridge with rxq := delivered.bridge.rxq }
      regs := { T.2.regs with rxOverflow := delivered.regs.rxOverflow }
      events := D.events } := by
    have c := receiveDelivery_congr (cls := cls) (s := T.2) (u := s)
      (by rw [hTe, hVe, hRe]) (by rw [hTe, hVe, hRe]) (by rw [hTe, hVe, hRe]; exact k8)
      (by rw [hTe, hVe, hRe]) (by rw [hTe, hVe, hRe])
    by_cases hr : st = .ready
    · have kd := receiveDelivery_keeps cls T.2
      simp only [hr, if_true] at hD
      have : delivered = receiveDelivery cls s := by simp [delivered, hr]
      simp only at kd
      rw [hD] at kd c
      rw [this, ← c.1, ← c.2.1, ← c.2.2]
      exact kd
    · have : delivered = s := by simp [delivered, hr]
      rw [if_neg hr] at hD
      subst hD
      rw [this]
      have e1 : s.line.dscrState = T.2.line.dscrState := by rw [hTe, hVe, hRe]; exact k8.symm
      have e2 : s.bridge.rxq = T.2.bridge.rxq := by rw [hTe, hVe, hRe]
      have e3 : s.regs.rxOverflow = T.2.regs.rxOverflow := by rw [hTe, hVe, hRe]
      rw [e1, e2, e3]
  generalize hM : transmit st D = M
  have hMe := transmit_keeps st D
  simp only [hM] at hMe
  have m := transmit_congr (st := st) (s := D) (u := s)
    (by rw [hDe, hTe, hVe, hRe]) (by rw [hDe, hTe, hVe, hRe]) (by rw [hDe, hTe, hVe, hRe]; exact k4)
    (by rw [hDe, hTe, hVe, hRe]; exact k7) (by rw [hDe, hTe, hVe, hRe]; exact k9) (by rw [hDe, hTe, hVe, hRe])
  rw [hM] at m
  obtain ⟨m1, m2, m3, m4, m5⟩ := m
  have whole : receiveIn st w s = finishTick T.1 (isComma w) (slips st (isComma w) s.line) M := by
    simp only [receiveIn, hR, hcls, hV, hT, hD, hM]
  have hev : (receiveIn st w s).events = M.events := by rw [whole, finishTick_eq]
  rw [hev, whole, finishTick_eq, t1]
  rw [hMe, m1, m2, m3, m4, m5, hDe, hTe, hVe, hVd, hRe]
  simp only [t2, t3, t4, t5, trained, sent, delivered]
  rw [show l.rxPrev = s.line.rxPrev from k6]

/-- What a line tick outside RESET leaves in the parts that the aligner and the trainer write. -/
theorem receiveIn_parts (st : LinkState) (w : LineWord) (s : State) :
    let l := alignStep s.cfg st (isComma w) (commaElsewhere s.rx.window s.line.alignOffset) s.line
    let trained := trainStep st (classHere w s) (s.putLine l)
    let t := receiveIn st w s
    t.line.linkState = trained.1 ∧ t.line.timer = trained.2.line.timer ∧ t.line.errCount = trained.2.line.errCount ∧
      t.regs.cause = trained.2.regs.cause ∧ t.regs.linkResetReq = trained.2.regs.linkResetReq ∧
      t.line.lock = l.lock ∧ t.line.slipCount = l.slipCount ∧ t.line.alignOffset = l.alignOffset ∧
      t.line.commaRun = l.commaRun ∧ t.line.driftRun = l.driftRun ∧
      t.ports.bitslipRequest = slips st (isComma w) s.line ∧ t.ports.commaDetected = isComma w ∧
      t.cfg = s.cfg ∧ t.agenda = s.agenda := by
  intro l trained t
  have h : t = receiveIn st w s := rfl
  rw [receiveIn_eq] at h
  rw [h]
  exact ⟨rfl, rfl, rfl, rfl, rfl, rfl, rfl, rfl, rfl, rfl, rfl, rfl, rfl, rfl⟩

/-- The trainer raises the same events from two states that agree in what it reads. -/
theorem trainStep_events {st : LinkState} {cls : WordClass} {s u : State} (hc : s.cfg = u.cfg)
    (h1 : s.regs.linkResetReq = u.regs.linkResetReq) (h2 : s.regs.phyReadyLast = u.regs.phyReadyLast)
    (h4 : s.line.lock = u.line.lock) (h5 : s.line.slipCount = u.line.slipCount)
    (h6 : s.line.timer = u.line.timer) (h7 : s.line.errCount = u.line.errCount) :
    ∃ es, (trainStep st cls s).2.events = s.events ++ es ∧ (trainStep st cls u).2.events = u.events ++ es := by
  unfold trainStep
  rw [h1, h2]
  split
  · exact ⟨_, rfl, rfl⟩
  · split
    · exact ⟨_, rfl, rfl⟩
    · cases st with
      | reset => exact ⟨[], by simp, by simp⟩
      | error => exact ⟨[], by simp, by simp⟩
      | sendTraining =>
        simp only [trainSendTraining, exhausted, limitReached, hc, h5, h6]
        by_cases a : u.cfg.slipLimit ≤ u.line.slipCount.toNat <;>
          by_cases b : u.cfg.txDwell ≤ u.line.timer.toNat + 1 <;> simp only [a, b, decide_true, decide_false, if_true]
        all_goals first | exact ⟨[_], rfl, rfl⟩ | exact ⟨[], (List.append_nil _).symm, (List.append_nil _).symm⟩
      | waitAlign =>
        simp only [trainWaitAlign, exhausted, limitReached, hc, h4, h5, h6]
        by_cases a : u.line.lock = true <;> by_cases b : u.cfg.slipLimit ≤ u.line.slipCount.toNat <;>
          by_cases c : u.cfg.alignTimeout ≤ u.line.timer.toNat + 1 <;>
          simp only [a, b, c, decide_true, decide_false, if_true]
        all_goals first | exact ⟨[_], rfl, rfl⟩ | exact ⟨[], (List.append_nil _).symm, (List.append_nil _).symm⟩
      | aligned =>
        simp only [trainAligned, limitReached, hc, h4, h6]
        by_cases a : u.line.lock = true <;> by_cases b : cls = .err <;>
          by_cases c : u.cfg.confirmWindow ≤ u.line.timer.toNat + 1 <;>
          simp only [a, b, c, decide_true, decide_false, if_true]
        all_goals first | exact ⟨[_], rfl, rfl⟩ | exact ⟨[], (List.append_nil _).symm, (List.append_nil _).symm⟩
      | ready =>
        have hn : nextErrCount cls s.line = nextErrCount cls u.line := by unfold nextErrCount; rw [h7]
        simp only [trainReady, hc, h4, hn]
        by_cases a : u.line.lock = true <;> by_cases b : u.cfg.errThreshold ≤ nextErrCount cls u.line <;>
          simp only [a, b, if_true]
        all_goals first | exact ⟨[_], rfl, rfl⟩ | exact ⟨[], (List.append_nil _).symm, (List.append_nil _).symm⟩

/-- Delivery raises an overflow exactly where it has an entry to deliver and no room. -/
theorem receiveDelivery_events (cls : WordClass) (s : State) :
    (receiveDelivery cls s).events =
      s.events ++ if cls ≠ .idle ∧ s.cfg.rxqDepth ≤ s.bridge.rxq.length then [.rxOverflow] else [] := by
  have key : ∀ (e : RxEntry) (u : State), (deliver e u).events =
      u.events ++ if u.cfg.rxqDepth ≤ u.bridge.rxq.length then [.rxOverflow] else [] := by
    intro e u
    rw [deliver_eq]
    by_cases h : u.bridge.rxq.length < u.cfg.rxqDepth
    · rw [if_pos h, if_neg (by omega)]; simp
    · rw [if_neg h, if_pos (by omega)]
  unfold receiveDelivery
  cases cls with
  | idle => simp
  | sof => simp [key]; rfl
  | err => simp [key]
  | data r =>
    dsimp only
    split
    · simp [key]
    · simp [key]; rfl

/-- The events of a line tick outside RESET, in order: the code violation, the trainer's, the overflow. -/
theorem receiveIn_events (w : LineWord) (s : State) :
    let st := s.line.linkState
    let l := alignStep s.cfg st (isComma w) (commaElsewhere s.rx.window s.line.alignOffset) s.line
    ∃ es, (trainStep st (classHere w s) (s.putLine l)).2.events = s.events ++ es ∧
      (receiveIn st w s).events = s.events ++ violationEvents w s ++ es ++ overflowEvents w s := by
  intro st l
  generalize hR : receiveLanes w (alignTick st (isComma w) s) = R
  have hRe : R = { s with
      line := { l with decRd := (decodeWord w l.decRd).2 }
      rx := { s.rx with lanes := (decodeWord w l.decRd).1 } } := by
    rw [← hR, show alignTick st (isComma w) s = s.putLine l from rfl, receiveLanes_eq]
    rfl
  have hd : l.decRd = s.line.decRd :=
    (alignStep_keeps s.cfg st (isComma w) (commaElsewhere s.rx.window s.line.alignOffset) s.line).2.2.2.2.1
  have hcls : classify R.rx.lanes = classHere w s := by rw [hRe, hd]; rfl
  generalize hV : countViolation st (classHere w s) R = V
  have hVe := countViolation_keeps st (classHere w s) R
  simp only [hV] at hVe
  have hVev : V.events = s.events ++ violationEvents w s := by
    rw [← hV]
    unfold countViolation violationEvents
    by_cases hc : (st = .aligned ∨ st = .ready) ∧ classHere w s = .err
    · rw [if_pos hc, if_pos hc, hRe]; rfl
    · rw [if_neg hc, if_neg hc, hRe]; simp
  obtain ⟨es, e1, e2⟩ := trainStep_events (st := st) (cls := classHere w s) (s := V) (u := s.putLine l)
    (by rw [hVe, hRe]; rfl) (by rw [hVe, hRe]; rfl) (by rw [hVe, hRe]; rfl) (by rw [hVe, hRe]; rfl)
    (by rw [hVe, hRe]; rfl) (by rw [hVe, hRe]; rfl) (by rw [hVe, hRe]; rfl)
  have hTe := trainStep_keeps st (classHere w s) V
  generalize hT : trainStep st (classHere w s) V = T at e1 hTe
  refine ⟨es, e2, ?_⟩
  have whole : (receiveIn st w s).events =
      (if st = .ready then receiveDelivery (classHere w s) T.2 else T.2).events := by
    simp only [receiveIn, hR, hcls, hV, hT, finishTick_eq]
    rw [transmit_keeps]
  rw [whole]
  unfold overflowEvents
  by_cases hr : st = .ready
  · have h1 : T.2.cfg = s.cfg := by rw [hTe, hVe, hRe]
    have h2 : T.2.bridge = s.bridge := by rw [hTe, hVe, hRe]
    rw [if_pos hr, receiveDelivery_events, e1, hVev, h1, h2]
    have : s.line.linkState = .ready := hr
    simp [this]
  · have : s.line.linkState ≠ .ready := hr
    rw [if_neg hr, e1, hVev]
    simp [this]

end Sys2Proof.Machine
end

