-- ==== Sys2Proof/Laws/Step.lean ====
section
/-! SUPPORT. What one step can do: every action of the schedule as an operation on the state, with no instruction left
to unfold. -/

namespace Sys2Proof.Machine

/-- A line tick runs the receive path on the word that its window shows, or the RESET tick. -/
theorem perform_tick (raw : LineWord) (phy idle : Bool) (s : State) :
    perform (.tick raw phy idle) s =
      .next (receiveWord (fetchedWord (sampleInputs raw phy idle s)) (sampleInputs raw phy idle s)) := by
  unfold perform fetch fetchTick
  by_cases h : (sampleInputs raw phy idle s).line.linkState = .reset
  · simp [h, unfetched, receiveWord]
  · simp only [if_neg h]
    rw [exec_lineWord (lineWordOf_decodeLine _ _)]

/-- A step of the requester accepts the transaction it may accept. -/
theorem perform_accept (s : State) :
    perform .accept s = .next
      (match acceptable s with
        | some t => if t.we then acceptWrite t s else acceptRead t s
        | none => s) := by
  unfold perform fetch fetchTxn unfetched
  cases h : acceptable s with
  | none => rfl
  | some t =>
    have hf : requesterFree s = true ∧ s.ports.txnIn = some t := by
      unfold acceptable at h; split at h
      · exact ⟨‹_›, h⟩
      · cases h
    have hp : presentTxn t s = s := by simp [presentTxn, hf.2]
    obtain ⟨we, addr, data, be⟩ := t
    have offered : ∀ accept, offerTxn accept ⟨we, addr, data, be⟩ s = accept ⟨we, addr, data, be⟩ s := by
      intro accept; simp [offerTxn, hp, hf.1, hf.2]
    cases we
    · exact congrArg Host.Outcome.next (offered acceptRead)
    · exact congrArg Host.Outcome.next (offered acceptWrite)

/-- A step of the Depacketizer does the same whether or not it fetches a malformed frame (44_framer.md R213, R217). -/
theorem perform_depacketizer (s : State) : perform .depacketizer s = .next (depacketizerStep s) := by
  unfold perform fetch fetchMalformed unfetched
  cases h : malformedNext s with
  | none => rfl
  | some f =>
    obtain ⟨hdr, addr, data⟩ := f
    unfold malformedNext at h
    split at h
    · rename_i hdr' addr' data' w rest hheld hst hbuf hq
      split at h
      · rename_i hw
        cases h
        have : decodeHeader hdr addr data = .malformedHeader hdr addr data := by
          have hl := hw.2
          unfold legalHeader at hl
          unfold decodeHeader
          by_cases hz : hdr.extractLsb' 12 20 = 0#20
          · simp_all
          · rw [if_neg hz]
        have hcrc : ¬(w = crc32 [hdr, addr, data] ∧ legalHeader hdr = true) := by simp [hw.2]
        simp only [Option.map_some, this]
        have step : depacketizerStep s = takeEntry (.data w) (dequeueRx s) := by
          unfold depacketizerStep; rw [hheld, hq]
        have take : takeEntry (.data w) (dequeueRx s) = collectWord w (dequeueRx s) := by
          have : (dequeueRx s).bus.depState = .collect := hst
          unfold takeEntry; rw [this]
        have coll : collectWord w (dequeueRx s) = endFrame hdr addr data w (dequeueRx s) := by
          have : (dequeueRx s).bus.depBuf = [hdr, addr, data] := hbuf
          unfold collectWord; rw [this]
        rw [step, take, coll, endFrame_eq, if_neg hcrc]
        rfl
      · cases h
    · cases h

/-- A header put together from its fields gives them back. -/
theorem headerWord_fields (t : Byte) (be : ByteEnable) :
    headerType (headerWord t be) = t ∧ headerBe (headerWord t be) = be ∧ (headerWord t be).extractLsb' 12 20 = 0#20 := by
  revert t be
  decide +kernel

/-- A step of the tunnel receives the message it may take. -/
theorem perform_receive (s : State) :
    perform .receive s = .next (match takeable s with | some m => tunnelReceive m s | none => s) := by
  unfold perform fetch fetchMessage unfetched
  cases h : takeable s with
  | none => rfl
  | some m =>
    obtain ⟨mtype, be, addr, data⟩ := m
    dsimp only
    split
    · rename_i f hf
      split at hf
      · rename_i hl
        cases hf
        obtain ⟨h1, h2, h3⟩ := headerWord_fields mtype be
        unfold headerType at h1
        unfold headerBe at h2
        unfold legalHeader at hl
        unfold decodeHeader
        rw [h1] at hl
        rw [h1, h2, h3]
        by_cases w : mtype = 0x01#8
        · subst w; rfl
        · by_cases r : mtype = 0x02#8
          · subst r; rfl
          · by_cases p : mtype = 0x03#8
            · subst p; rfl
            · simp [w, r, p] at hl
      · cases hf
    · rfl

/-- One `Decode` decodes its group in the next lane. -/
theorem perform_group (g : Group) (s : State) : perform (.group g) s = .next (receiveGroup g s) := by
  unfold perform fetch
  exact exec_codeGroup (codeGroupOf_decodeGroup _ _) s

/-- What each action does. -/
theorem perform_eq (a : Action) (s : State) :
    perform a s =
      match a with
      | .rst => .next (powerUpReset s)
      | .tick raw phy idle =>
        .next (receiveWord (fetchedWord (sampleInputs raw phy idle s)) (sampleInputs raw phy idle s))
      | .packetizer => .next (packetizerStep s)
      | .accept => .next
        (match acceptable s with
          | some t => if t.we then acceptWrite t s else acceptRead t s
          | none => s)
      | .depacketizer => .next (depacketizerStep s)
      | .receive => .next (match takeable s with | some m => tunnelReceive m s | none => s)
      | .busDone v => .next (completerBusDone v s)
      | .hostRead off => exec (decodeRead off) s
      | .hostWrite off val => exec (decodeWrite off val) s
      | .present txn => .next (presentTxn txn s)
      | .group g => .next (receiveGroup g s)
      | .encode k v => encodeStep k v s
      | .otherMaster addr be data => .next (s.putMem (memWrite s.mem addr be data)) := by
  cases a with
  | tick raw phy idle => exact perform_tick raw phy idle s
  | accept => exact perform_accept s
  | depacketizer => exact perform_depacketizer s
  | receive => exact perform_receive s
  | group g => exact perform_group g s
  | _ => rfl

/-- With no reserved cause code an action is performed. -/
theorem takeStep_eq {a : Action} {s : State} (hc : s.regs.cause.toNat < 8) : takeStep a s = perform a s := by
  unfold takeStep
  rw [if_neg (Nat.not_le.mpr hc)]

/-- An action that goes on started without a reserved cause code. -/
theorem takeStep_next {a : Action} {s t : State} (h : takeStep a s = .next t) :
    s.regs.cause.toNat < 8 ∧ perform a s = .next t := by
  unfold takeStep at h
  split at h
  · cases h
  · exact ⟨Nat.not_le.mp ‹_›, h⟩

/-- A step runs the action its schedule names first, or the eager schedule's. -/
theorem step_cases {s t : State} (h : step s = .next t) :
    s.cfg.legal = true ∧ s.regs.cause.toNat < 8 ∧
      ((s.agenda = [] ∧ perform (nextAction s) s = .next t) ∨
        ∃ a rest, s.agenda = a :: rest ∧ perform a (s.putAgenda rest) = .next t) := by
  unfold step at h
  split at h
  · rename_i hl
    split at h
    · obtain ⟨hc, hp⟩ := takeStep_next h
      exact ⟨hl, hc, .inl ⟨‹_›, hp⟩⟩
    · rename_i a rest hs
      obtain ⟨hc, hp⟩ := takeStep_next h
      exact ⟨hl, hc, .inr ⟨a, rest, hs, hp⟩⟩
  · cases h

/-- A step of a legal build with a named action and no reserved cause code performs that action. -/
theorem step_eq {s : State} {a : Action} {rest : List Action} (hl : s.cfg.legal = true)
    (hc : s.regs.cause.toNat < 8) (ha : s.agenda = a :: rest) : step s = perform a (s.putAgenda rest) := by
  unfold step
  rw [if_pos hl, ha]
  exact takeStep_eq (s := s.putAgenda rest) hc

/-- A step of a legal build with nothing scheduled and no reserved cause code performs the eager schedule's action. -/
theorem step_eager {s : State} (hl : s.cfg.legal = true) (hc : s.regs.cause.toNat < 8) (ha : s.agenda = []) :
    step s = perform (nextAction s) s := by
  unfold step
  rw [if_pos hl, ha]
  exact takeStep_eq hc

/-- A host read of any offset changes `hostValue` at most. -/
theorem exec_decodeRead (off : Word) (s : State) :
    (∃ f, exec (decodeRead off) s = .fault f ∧ 8 ≤ s.regs.cause.toNat) ∨
      ∃ v, exec (decodeRead off) s = .next { s with ports := { s.ports with hostValue := v } } := by
  unfold decodeRead
  repeat' split
  · exact .inr ⟨_, rfl⟩
  · unfold exec execCsrrStatus
    by_cases h : 8 ≤ s.regs.cause.toNat
    · exact .inl ⟨.reservedCause s.regs.cause, by simp only [if_pos h], h⟩
    · exact .inr ⟨_, by simp only [if_neg h]; rfl⟩
  all_goals exact .inr ⟨_, rfl⟩

/-- A host write of any offset changes the registers at most. -/
theorem exec_decodeWrite (off val : Word) (s : State) :
    ∃ r, exec (decodeWrite off val) s = .next { s with regs := r } ∧ r.cause.toNat ≤ s.regs.cause.toNat := by
  unfold decodeWrite
  repeat' split
  · exact ⟨_, rfl, Nat.le_refl _⟩
  · exact ⟨s.regs, rfl, Nat.le_refl _⟩
  · refine ⟨_, rfl, ?_⟩
    dsimp only
    split
    · simp
    · exact Nat.le_refl _
  all_goals exact ⟨s.regs, rfl, Nat.le_refl _⟩

end Sys2Proof.Machine
end

