-- ==== Sys2Proof/Tests/Slice0.lean ====
section
/-! SUPPORT. Tests, each on words and values taken from the spec: spec/opcode_table.json, the worked examples of the rules
and 95_test_vectors.md. The witnesses at the end meet the hypotheses of the statements. -/

namespace Sys2Proof.Tests

open Machine

set_option Elab.async false

/-! ### Well-formed instructions: each check refuses an ill-formed one -/

/-- 0x17C is K28.5- under NEG (30_encoding.md R91). -/
theorem test_wf_invalidGroup : (Instr.invalidGroup .neg 0x17C#10).wf = false := by decide +kernel
theorem test_wf_invalidGroup_otherRd : (Instr.invalidGroup .pos 0x17C#10).wf = true := by decide +kernel

/-- The IDLE word of 30_encoding.md R82. -/
theorem test_wf_lineErr : (Instr.lineErr .neg 0xD1B46D197C#40).wf = false := by decide +kernel
theorem test_wf_malformedHeader : (Instr.malformedHeader 0x00000F02#32 0 0).wf = false := by decide +kernel
theorem test_wf_malformedHeader_reserved : (Instr.malformedHeader 0x00001F02#32 0 0).wf = true := by decide +kernel
theorem test_wf_csrReserved : (Instr.csrReserved true 0x0C#32 0).wf = false := by decide +kernel
theorem test_wf_csrReserved_readValue : (Instr.csrReserved false 0x14#32 1#32).wf = false := by decide +kernel

/-! ### Decoding: every row, from the table's words -/

/-- The rows legal under NEG in spec/opcode_table.json, part 1 of 3. -/
def wordsNeg0 : List (Nat × Instr) :=
  [(0x0B9, .d0_0neg), (0x0AE, .d1_0neg), (0x0AD, .d2_0neg), (0x363, .d3_0neg), (0x0AB, .d4_0neg), (0x365, .d5_0neg),
   (0x366, .d6_0neg), (0x347, .d7_0neg), (0x0A7, .d8_0neg), (0x369, .d9_0neg), (0x36A, .d10_0neg),
   (0x34B, .d11_0neg), (0x36C, .d12_0neg), (0x34D, .d13_0neg), (0x34E, .d14_0neg), (0x0BA, .d15_0neg),
   (0x0B6, .d16_0neg), (0x371, .d17_0neg), (0x372, .d18_0neg), (0x353, .d19_0neg), (0x374, .d20_0neg),
   (0x355, .d21_0neg), (0x356, .d22_0neg), (0x097, .d23_0neg), (0x0B3, .d24_0neg), (0x359, .d25_0neg),
   (0x35A, .d26_0neg), (0x09B, .d27_0neg), (0x35C, .d28_0neg), (0x09D, .d29_0neg), (0x09E, .d30_0neg),
   (0x0B5, .d31_0neg), (0x279, .d0_1neg), (0x26E, .d1_1neg), (0x26D, .d2_1neg), (0x263, .d3_1neg), (0x26B, .d4_1neg),
   (0x265, .d5_1neg), (0x266, .d6_1neg), (0x247, .d7_1neg), (0x267, .d8_1neg), (0x269, .d9_1neg), (0x26A, .d10_1neg),
   (0x24B, .d11_1neg), (0x26C, .d12_1neg), (0x24D, .d13_1neg), (0x24E, .d14_1neg), (0x27A, .d15_1neg),
   (0x276, .d16_1neg), (0x271, .d17_1neg), (0x272, .d18_1neg), (0x253, .d19_1neg), (0x274, .d20_1neg),
   (0x255, .d21_1neg), (0x256, .d22_1neg), (0x257, .d23_1neg), (0x273, .d24_1neg), (0x259, .d25_1neg),
   (0x25A, .d26_1neg), (0x25B, .d27_1neg), (0x25C, .d28_1neg), (0x25D, .d29_1neg), (0x25E, .d30_1neg),
   (0x275, .d31_1neg), (0x2B9, .d0_2neg), (0x2AE, .d1_2neg), (0x2AD, .d2_2neg), (0x2A3, .d3_2neg), (0x2AB, .d4_2neg),
   (0x2A5, .d5_2neg), (0x2A6, .d6_2neg), (0x287, .d7_2neg), (0x2A7, .d8_2neg), (0x2A9, .d9_2neg), (0x2AA, .d10_2neg),
   (0x28B, .d11_2neg), (0x2AC, .d12_2neg), (0x28D, .d13_2neg), (0x28E, .d14_2neg), (0x2BA, .d15_2neg),
   (0x2B6, .d16_2neg), (0x2B1, .d17_2neg), (0x2B2, .d18_2neg), (0x293, .d19_2neg), (0x2B4, .d20_2neg),
   (0x295, .d21_2neg)]

/-- The rows legal under NEG in spec/opcode_table.json, part 2 of 3. -/
def wordsNeg1 : List (Nat × Instr) :=
  [(0x296, .d22_2neg), (0x297, .d23_2neg), (0x2B3, .d24_2neg), (0x299, .d25_2neg), (0x29A, .d26_2neg),
   (0x29B, .d27_2neg), (0x29C, .d28_2neg), (0x29D, .d29_2neg), (0x29E, .d30_2neg), (0x2B5, .d31_2neg),
   (0x339, .d0_3neg), (0x32E, .d1_3neg), (0x32D, .d2_3neg), (0x0E3, .d3_3neg), (0x32B, .d4_3neg), (0x0E5, .d5_3neg),
   (0x0E6, .d6_3neg), (0x0C7, .d7_3neg), (0x327, .d8_3neg), (0x0E9, .d9_3neg), (0x0EA, .d10_3neg),
   (0x0CB, .d11_3neg), (0x0EC, .d12_3neg), (0x0CD, .d13_3neg), (0x0CE, .d14_3neg), (0x33A, .d15_3neg),
   (0x336, .d16_3neg), (0x0F1, .d17_3neg), (0x0F2, .d18_3neg), (0x0D3, .d19_3neg), (0x0F4, .d20_3neg),
   (0x0D5, .d21_3neg), (0x0D6, .d22_3neg), (0x317, .d23_3neg), (0x333, .d24_3neg), (0x0D9, .d25_3neg),
   (0x0DA, .d26_3neg), (0x31B, .d27_3neg), (0x0DC, .d28_3neg), (0x31D, .d29_3neg), (0x31E, .d30_3neg),
   (0x335, .d31_3neg), (0x139, .d0_4neg), (0x12E, .d1_4neg), (0x12D, .d2_4neg), (0x2E3, .d3_4neg), (0x12B, .d4_4neg),
   (0x2E5, .d5_4neg), (0x2E6, .d6_4neg), (0x2C7, .d7_4neg), (0x127, .d8_4neg), (0x2E9, .d9_4neg), (0x2EA, .d10_4neg),
   (0x2CB, .d11_4neg), (0x2EC, .d12_4neg), (0x2CD, .d13_4neg), (0x2CE, .d14_4neg), (0x13A, .d15_4neg),
   (0x136, .d16_4neg), (0x2F1, .d17_4neg), (0x2F2, .d18_4neg), (0x2D3, .d19_4neg), (0x2F4, .d20_4neg),
   (0x2D5, .d21_4neg), (0x2D6, .d22_4neg), (0x117, .d23_4neg), (0x133, .d24_4neg), (0x2D9, .d25_4neg),
   (0x2DA, .d26_4neg), (0x11B, .d27_4neg), (0x2DC, .d28_4neg), (0x11D, .d29_4neg), (0x11E, .d30_4neg),
   (0x135, .d31_4neg), (0x179, .d0_5neg), (0x16E, .d1_5neg), (0x16D, .d2_5neg), (0x163, .d3_5neg), (0x16B, .d4_5neg),
   (0x165, .d5_5neg), (0x166, .d6_5neg), (0x147, .d7_5neg), (0x167, .d8_5neg), (0x169, .d9_5neg), (0x16A, .d10_5neg),
   (0x14B, .d11_5neg)]

/-- The rows legal under NEG in spec/opcode_table.json, part 3 of 3. -/
def wordsNeg2 : List (Nat × Instr) :=
  [(0x16C, .d12_5neg), (0x14D, .d13_5neg), (0x14E, .d14_5neg), (0x17A, .d15_5neg), (0x176, .d16_5neg),
   (0x171, .d17_5neg), (0x172, .d18_5neg), (0x153, .d19_5neg), (0x174, .d20_5neg), (0x155, .d21_5neg),
   (0x156, .d22_5neg), (0x157, .d23_5neg), (0x173, .d24_5neg), (0x159, .d25_5neg), (0x15A, .d26_5neg),
   (0x15B, .d27_5neg), (0x15C, .d28_5neg), (0x15D, .d29_5neg), (0x15E, .d30_5neg), (0x175, .d31_5neg),
   (0x1B9, .d0_6neg), (0x1AE, .d1_6neg), (0x1AD, .d2_6neg), (0x1A3, .d3_6neg), (0x1AB, .d4_6neg), (0x1A5, .d5_6neg),
   (0x1A6, .d6_6neg), (0x187, .d7_6neg), (0x1A7, .d8_6neg), (0x1A9, .d9_6neg), (0x1AA, .d10_6neg),
   (0x18B, .d11_6neg), (0x1AC, .d12_6neg), (0x18D, .d13_6neg), (0x18E, .d14_6neg), (0x1BA, .d15_6neg),
   (0x1B6, .d16_6neg), (0x1B1, .d17_6neg), (0x1B2, .d18_6neg), (0x193, .d19_6neg), (0x1B4, .d20_6neg),
   (0x195, .d21_6neg), (0x196, .d22_6neg), (0x197, .d23_6neg), (0x1B3, .d24_6neg), (0x199, .d25_6neg),
   (0x19A, .d26_6neg), (0x19B, .d27_6neg), (0x19C, .d28_6neg), (0x19D, .d29_6neg), (0x19E, .d30_6neg),
   (0x1B5, .d31_6neg), (0x239, .d0_7neg), (0x22E, .d1_7neg), (0x22D, .d2_7neg), (0x1E3, .d3_7neg), (0x22B, .d4_7neg),
   (0x1E5, .d5_7neg), (0x1E6, .d6_7neg), (0x1C7, .d7_7neg), (0x227, .d8_7neg), (0x1E9, .d9_7neg), (0x1EA, .d10_7neg),
   (0x1CB, .d11_7neg), (0x1EC, .d12_7neg), (0x1CD, .d13_7neg), (0x1CE, .d14_7neg), (0x23A, .d15_7neg),
   (0x236, .d16_7neg), (0x3B1, .d17_7neg), (0x3B2, .d18_7neg), (0x1D3, .d19_7neg), (0x3B4, .d20_7neg),
   (0x1D5, .d21_7neg), (0x1D6, .d22_7neg), (0x217, .d23_7neg), (0x233, .d24_7neg), (0x1D9, .d25_7neg),
   (0x1DA, .d26_7neg), (0x21B, .d27_7neg), (0x1DC, .d28_7neg), (0x21D, .d29_7neg), (0x21E, .d30_7neg),
   (0x235, .d31_7neg), (0x17C, .k28_5neg), (0x05B, .k27_7neg)]

/-- The rows legal under POS in spec/opcode_table.json, part 1 of 3. -/
def wordsPos0 : List (Nat × Instr) :=
  [(0x346, .d0_0pos), (0x351, .d1_0pos), (0x352, .d2_0pos), (0x0A3, .d3_0pos), (0x354, .d4_0pos), (0x0A5, .d5_0pos),
   (0x0A6, .d6_0pos), (0x0B8, .d7_0pos), (0x358, .d8_0pos), (0x0A9, .d9_0pos), (0x0AA, .d10_0pos),
   (0x08B, .d11_0pos), (0x0AC, .d12_0pos), (0x08D, .d13_0pos), (0x08E, .d14_0pos), (0x345, .d15_0pos),
   (0x349, .d16_0pos), (0x0B1, .d17_0pos), (0x0B2, .d18_0pos), (0x093, .d19_0pos), (0x0B4, .d20_0pos),
   (0x095, .d21_0pos), (0x096, .d22_0pos), (0x368, .d23_0pos), (0x34C, .d24_0pos), (0x099, .d25_0pos),
   (0x09A, .d26_0pos), (0x364, .d27_0pos), (0x09C, .d28_0pos), (0x362, .d29_0pos), (0x361, .d30_0pos),
   (0x34A, .d31_0pos), (0x246, .d0_1pos), (0x251, .d1_1pos), (0x252, .d2_1pos), (0x263, .d3_1pos), (0x254, .d4_1pos),
   (0x265, .d5_1pos), (0x266, .d6_1pos), (0x278, .d7_1pos), (0x258, .d8_1pos), (0x269, .d9_1pos), (0x26A, .d10_1pos),
   (0x24B, .d11_1pos), (0x26C, .d12_1pos), (0x24D, .d13_1pos), (0x24E, .d14_1pos), (0x245, .d15_1pos),
   (0x249, .d16_1pos), (0x271, .d17_1pos), (0x272, .d18_1pos), (0x253, .d19_1pos), (0x274, .d20_1pos),
   (0x255, .d21_1pos), (0x256, .d22_1pos), (0x268, .d23_1pos), (0x24C, .d24_1pos), (0x259, .d25_1pos),
   (0x25A, .d26_1pos), (0x264, .d27_1pos), (0x25C, .d28_1pos), (0x262, .d29_1pos), (0x261, .d30_1pos),
   (0x24A, .d31_1pos), (0x286, .d0_2pos), (0x291, .d1_2pos), (0x292, .d2_2pos), (0x2A3, .d3_2pos), (0x294, .d4_2pos),
   (0x2A5, .d5_2pos), (0x2A6, .d6_2pos), (0x2B8, .d7_2pos), (0x298, .d8_2pos), (0x2A9, .d9_2pos), (0x2AA, .d10_2pos),
   (0x28B, .d11_2pos), (0x2AC, .d12_2pos), (0x28D, .d13_2pos), (0x28E, .d14_2pos), (0x285, .d15_2pos),
   (0x289, .d16_2pos), (0x2B1, .d17_2pos), (0x2B2, .d18_2pos), (0x293, .d19_2pos), (0x2B4, .d20_2pos),
   (0x295, .d21_2pos)]

/-- The rows legal under POS in spec/opcode_table.json, part 2 of 3. -/
def wordsPos1 : List (Nat × Instr) :=
  [(0x296, .d22_2pos), (0x2A8, .d23_2pos), (0x28C, .d24_2pos), (0x299, .d25_2pos), (0x29A, .d26_2pos),
   (0x2A4, .d27_2pos), (0x29C, .d28_2pos), (0x2A2, .d29_2pos), (0x2A1, .d30_2pos), (0x28A, .d31_2pos),
   (0x0C6, .d0_3pos), (0x0D1, .d1_3pos), (0x0D2, .d2_3pos), (0x323, .d3_3pos), (0x0D4, .d4_3pos), (0x325, .d5_3pos),
   (0x326, .d6_3pos), (0x338, .d7_3pos), (0x0D8, .d8_3pos), (0x329, .d9_3pos), (0x32A, .d10_3pos),
   (0x30B, .d11_3pos), (0x32C, .d12_3pos), (0x30D, .d13_3pos), (0x30E, .d14_3pos), (0x0C5, .d15_3pos),
   (0x0C9, .d16_3pos), (0x331, .d17_3pos), (0x332, .d18_3pos), (0x313, .d19_3pos), (0x334, .d20_3pos),
   (0x315, .d21_3pos), (0x316, .d22_3pos), (0x0E8, .d23_3pos), (0x0CC, .d24_3pos), (0x319, .d25_3pos),
   (0x31A, .d26_3pos), (0x0E4, .d27_3pos), (0x31C, .d28_3pos), (0x0E2, .d29_3pos), (0x0E1, .d30_3pos),
   (0x0CA, .d31_3pos), (0x2C6, .d0_4pos), (0x2D1, .d1_4pos), (0x2D2, .d2_4pos), (0x123, .d3_4pos), (0x2D4, .d4_4pos),
   (0x125, .d5_4pos), (0x126, .d6_4pos), (0x138, .d7_4pos), (0x2D8, .d8_4pos), (0x129, .d9_4pos), (0x12A, .d10_4pos),
   (0x10B, .d11_4pos), (0x12C, .d12_4pos), (0x10D, .d13_4pos), (0x10E, .d14_4pos), (0x2C5, .d15_4pos),
   (0x2C9, .d16_4pos), (0x131, .d17_4pos), (0x132, .d18_4pos), (0x113, .d19_4pos), (0x134, .d20_4pos),
   (0x115, .d21_4pos), (0x116, .d22_4pos), (0x2E8, .d23_4pos), (0x2CC, .d24_4pos), (0x119, .d25_4pos),
   (0x11A, .d26_4pos), (0x2E4, .d27_4pos), (0x11C, .d28_4pos), (0x2E2, .d29_4pos), (0x2E1, .d30_4pos),
   (0x2CA, .d31_4pos), (0x146, .d0_5pos), (0x151, .d1_5pos), (0x152, .d2_5pos), (0x163, .d3_5pos), (0x154, .d4_5pos),
   (0x165, .d5_5pos), (0x166, .d6_5pos), (0x178, .d7_5pos), (0x158, .d8_5pos), (0x169, .d9_5pos), (0x16A, .d10_5pos),
   (0x14B, .d11_5pos)]

/-- The rows legal under POS in spec/opcode_table.json, part 3 of 3. -/
def wordsPos2 : List (Nat × Instr) :=
  [(0x16C, .d12_5pos), (0x14D, .d13_5pos), (0x14E, .d14_5pos), (0x145, .d15_5pos), (0x149, .d16_5pos),
   (0x171, .d17_5pos), (0x172, .d18_5pos), (0x153, .d19_5pos), (0x174, .d20_5pos), (0x155, .d21_5pos),
   (0x156, .d22_5pos), (0x168, .d23_5pos), (0x14C, .d24_5pos), (0x159, .d25_5pos), (0x15A, .d26_5pos),
   (0x164, .d27_5pos), (0x15C, .d28_5pos), (0x162, .d29_5pos), (0x161, .d30_5pos), (0x14A, .d31_5pos),
   (0x186, .d0_6pos), (0x191, .d1_6pos), (0x192, .d2_6pos), (0x1A3, .d3_6pos), (0x194, .d4_6pos), (0x1A5, .d5_6pos),
   (0x1A6, .d6_6pos), (0x1B8, .d7_6pos), (0x198, .d8_6pos), (0x1A9, .d9_6pos), (0x1AA, .d10_6pos),
   (0x18B, .d11_6pos), (0x1AC, .d12_6pos), (0x18D, .d13_6pos), (0x18E, .d14_6pos), (0x185, .d15_6pos),
   (0x189, .d16_6pos), (0x1B1, .d17_6pos), (0x1B2, .d18_6pos), (0x193, .d19_6pos), (0x1B4, .d20_6pos),
   (0x195, .d21_6pos), (0x196, .d22_6pos), (0x1A8, .d23_6pos), (0x18C, .d24_6pos), (0x199, .d25_6pos),
   (0x19A, .d26_6pos), (0x1A4, .d27_6pos), (0x19C, .d28_6pos), (0x1A2, .d29_6pos), (0x1A1, .d30_6pos),
   (0x18A, .d31_6pos), (0x1C6, .d0_7pos), (0x1D1, .d1_7pos), (0x1D2, .d2_7pos), (0x223, .d3_7pos), (0x1D4, .d4_7pos),
   (0x225, .d5_7pos), (0x226, .d6_7pos), (0x238, .d7_7pos), (0x1D8, .d8_7pos), (0x229, .d9_7pos), (0x22A, .d10_7pos),
   (0x04B, .d11_7pos), (0x22C, .d12_7pos), (0x04D, .d13_7pos), (0x04E, .d14_7pos), (0x1C5, .d15_7pos),
   (0x1C9, .d16_7pos), (0x231, .d17_7pos), (0x232, .d18_7pos), (0x213, .d19_7pos), (0x234, .d20_7pos),
   (0x215, .d21_7pos), (0x216, .d22_7pos), (0x1E8, .d23_7pos), (0x1CC, .d24_7pos), (0x219, .d25_7pos),
   (0x21A, .d26_7pos), (0x1E4, .d27_7pos), (0x21C, .d28_7pos), (0x1E2, .d29_7pos), (0x1E1, .d30_7pos),
   (0x1CA, .d31_7pos), (0x283, .k28_5pos), (0x3A4, .k27_7pos)]

/-- Each word, laid out low byte first, decodes to its row under the row's receive RD, and encodes back. -/
def rowsDecode (rd : RD) (rows : List (Nat × Instr)) : Bool :=
  rows.all fun r =>
    (decode .codeGroup rd [BitVec.ofNat 8 r.1, BitVec.ofNat 8 (r.1 / 256)]).toOption == some (r.2, []) &&
      encode r.2 == [BitVec.ofNat 8 r.1, BitVec.ofNat 8 (r.1 / 256)]

theorem test_decode_wordsNeg0 : rowsDecode .neg wordsNeg0 = true := by decide +kernel
theorem test_decode_wordsNeg1 : rowsDecode .neg wordsNeg1 = true := by decide +kernel
theorem test_decode_wordsNeg2 : rowsDecode .neg wordsNeg2 = true := by decide +kernel
theorem test_decode_wordsPos0 : rowsDecode .pos wordsPos0 = true := by decide +kernel
theorem test_decode_wordsPos1 : rowsDecode .pos wordsPos1 = true := by decide +kernel
theorem test_decode_wordsPos2 : rowsDecode .pos wordsPos2 = true := by decide +kernel

/-- Bytes of a format decode to one instruction and nothing is left. -/
def decodesTo (fmt : Format) (rd : RD) (bytes : List Byte) (i : Instr) : Bool :=
  (decode fmt rd bytes).toOption == some (i, []) && encode i == bytes

/-- K28.0- and all zeros are outside the alphabet, D0.0- does not arrive under POS (95_test_vectors.md 2.1). -/
theorem test_decode_invalid :
    decodesTo .codeGroup .neg [0xBC#8, 0x00#8] (.invalidGroup .neg 0x0BC#10) &&
    decodesTo .codeGroup .neg [0x00#8, 0x00#8] (.invalidGroup .neg 0x000#10) &&
    decodesTo .codeGroup .pos [0xB9#8, 0x00#8] (.invalidGroup .pos 0x0B9#10) = true := by decide +kernel

/-- The control words of 30_encoding.md R82. -/
theorem test_decode_controlWords :
    decodesTo .lineWord .neg [0x7C#8, 0x19#8, 0x6D#8, 0xB4#8, 0xD1#8] .idleNeg &&
    decodesTo .lineWord .pos [0x83#8, 0xE6#8, 0x92#8, 0x4B#8, 0x2E#8] .idlePos &&
    decodesTo .lineWord .neg [0x5B#8, 0xE4#8, 0x92#8, 0x4B#8, 0x2E#8] .sofNeg &&
    decodesTo .lineWord .pos [0xA4#8, 0x1B#8, 0x6D#8, 0xB4#8, 0xD1#8] .sofPos = true := by decide +kernel

/-- DATA 0xDEADBEEF from NEG, and K28.5 in lane 1 (95_test_vectors.md 2.1). -/
theorem test_decode_lineWords :
    decodesTo .lineWord .neg [0x3A#8, 0x7A#8, 0xD5#8, 0x54#8, 0x68#8] (.lineData .neg 0xDEADBEEF#32) &&
    decodesTo .lineWord .neg [0xB9#8, 0xF0#8, 0x65#8, 0xB4#8, 0xD1#8] (.lineErr .neg 0xD1B465F0B9#40) = true := by
  decide +kernel

/-- Headers with their ADDR and DATA words (30_encoding.md R85, R94; 44_framer.md R206). -/
theorem test_decode_headers :
    decodesTo .frameHeader .neg [0x01#8, 0x0F#8, 0#8, 0#8, 0x00#8, 0x01#8, 0#8, 0#8, 0xEF#8, 0xBE#8, 0xAD#8, 0xDE#8]
      (.msgWrite 0xF#4 0x100#32 0xDEADBEEF#32) &&
    decodesTo .frameHeader .neg [0x02#8, 0x0F#8, 0#8, 0#8, 0x00#8, 0x02#8, 0#8, 0#8, 0#8, 0#8, 0#8, 0#8]
      (.msgRead 0xF#4 0x200#32 0#32) &&
    decodesTo .frameHeader .neg [0x03#8, 0x02#8, 0#8, 0#8, 0x00#8, 0x02#8, 0#8, 0#8, 0x78#8, 0xAB#8, 0x34#8, 0x12#8]
      (.msgResponse 0x2#4 0x200#32 0x1234AB78#32) &&
    decodesTo .frameHeader .neg [0x01#8, 0x1F#8, 0#8, 0#8, 0#8, 0#8, 0#8, 0#8, 0#8, 0#8, 0#8, 0#8]
      (.malformedHeader 0x00001F01#32 0#32 0#32) = true := by decide +kernel

/-- Register reads (10_state.md R51 to R56): the offset, then the direction byte 0. -/
theorem test_decode_reads :
    decodesTo .registerAccess .neg [0x00#8, 0#8, 0#8, 0#8, 0#8] .csrrControl &&
    decodesTo .registerAccess .neg [0x04#8, 0#8, 0#8, 0#8, 0#8] .csrrStatus &&
    decodesTo .registerAccess .neg [0x08#8, 0#8, 0#8, 0#8, 0#8] .csrrClear &&
    decodesTo .registerAccess .neg [0x0C#8, 0#8, 0#8, 0#8, 0#8] .csrrFrameDropCount &&
    decodesTo .registerAccess .neg [0x10#8, 0#8, 0#8, 0#8, 0#8] .csrrDecodeErrorCount &&
    decodesTo .registerAccess .neg [0x05#8, 0#8, 0#8, 0#8, 0#8] (.csrReserved false 0x05#32 0#32) = true := by
  decide +kernel

/-- Register writes: the offset, the direction byte 1 and the value. -/
theorem test_decode_writes :
    decodesTo .registerAccess .neg [0x00#8, 0#8, 0#8, 0#8, 1#8, 3#8, 0#8, 0#8, 0#8] (.csrwControl 3#32) &&
    decodesTo .registerAccess .neg [0x04#8, 0#8, 0#8, 0#8, 1#8, 3#8, 0#8, 0#8, 0#8] (.csrwStatus 3#32) &&
    decodesTo .registerAccess .neg [0x08#8, 0#8, 0#8, 0#8, 1#8, 0xF#8, 0#8, 0#8, 0#8] (.csrwClear 0xF#32) &&
    decodesTo .registerAccess .neg [0x0C#8, 0#8, 0#8, 0#8, 1#8, 1#8, 0#8, 0#8, 0#8] (.csrwFrameDropCount 1#32) &&
    decodesTo .registerAccess .neg [0x10#8, 0#8, 0#8, 0#8, 1#8, 1#8, 0#8, 0#8, 0#8] (.csrwDecodeErrorCount 1#32) &&
    decodesTo .registerAccess .neg [0x14#8, 0#8, 0#8, 0#8, 1#8, 1#8, 0#8, 0#8, 0#8] (.csrReserved true 0x14#32 1#32) =
      true := by decide +kernel

/-- Local-bus transactions (45_bustunnel.md R237, R238). -/
theorem test_decode_txns :
    decodesTo .busTxn .neg [1#8, 0x00#8, 0x01#8, 0#8, 0#8, 0xEF#8, 0xBE#8, 0xAD#8, 0xDE#8, 0xF#8]
      (.txnWr 0x100#32 0xDEADBEEF#32 0xF#4) &&
    decodesTo .busTxn .neg [0#8, 0x00#8, 0x02#8, 0#8, 0#8, 0#8, 0#8, 0#8, 0#8, 0xF#8] (.txnRd 0x200#32 0#32 0xF#4) =
      true := by decide +kernel

/-- Bytes that are no whole unit are rejected by name. -/
theorem test_decode_rejects :
    (match decode .lineWord .neg [0x7C#8, 0x19#8] with | .error .tooShort => true | _ => false) &&
    (match decode .codeGroup .neg [0x7C#8, 0x05#8] with | .error .paddingBits => true | _ => false) &&
    (match decode .registerAccess .neg [0#8, 0#8, 0#8, 0#8, 2#8] with | .error .badDirection => true | _ => false) =
      true := by decide +kernel

/-- Words of the opcode table by their numbers. -/
theorem test_tableWords :
    decodeTableWord 16 0x283 = some .k28_5pos ∧ decodeTableWord 40 0xD1B46D1BA4 = some .sofPos ∧
    decodeTableWord 32 0x00000003 = some (.msgResponse 0#4 0#32 0#32) ∧ decodeTableWord 32 0x04 = some .csrrStatus ∧
    decodeTableWord 8 0x1 = some (.txnWr 0#32 0#32 0#4) ∧ decodeTableWord 8 0x0 = some (.txnRd 0#32 0#32 0#4) := by
  decide +kernel

/-! ### The LineCodec -/

/-- `Encode` (95_test_vectors.md 2.1; 40_linecodec.md R121): K28.5, D11.7 with its A7 form, D7.0 under POS. -/
theorem test_encode :
    encodeGroup true 0xBC#8 .neg = some (0x17C#10, .pos) ∧ encodeGroup true 0xBC#8 .pos = some (0x283#10, .neg) ∧
    encodeGroup false 0xEB#8 .pos = some (0x04B#10, .neg) ∧ encodeGroup false 0x07#8 .pos = some (0x0B8#10, .neg) ∧
    encodeGroup true 0x1C#8 .neg = none := by decide +kernel

/-- `Decode` (95_test_vectors.md 2.1): the RD after an Invalid group follows `RdAfter`. -/
theorem test_decodeLane :
    decodeLane 0x0B9#10 .pos = (.invalid, .neg) ∧ decodeLane 0x3FF#10 .pos = (.invalid, .pos) ∧
    decodeLane 0x155#10 .neg = (.valid (.data 0xB5#8), .neg) ∧ decodeLane 0x3A4#10 .pos = (.valid .sof, .pos) := by
  decide +kernel

/-- `EncodeWord` (95_test_vectors.md 2.1). -/
theorem test_encodeWord :
    encodeWord (.data 0xFFFFFFFF#32) .pos = (0x729CA729CA#40, .pos) ∧
    encodeWord (.data 0x12345678#32) .neg = (0x2CA74A5B33#40, .neg) ∧
    encodeWord (.data 0xBCBCBCBC#32) .neg = (0x5715C5715C#40, .neg) := by decide +kernel

/-- `Classify` and `IsComma` (95_test_vectors.md 2.1): a comma in lane 0 whose word is ERR. -/
theorem test_classify :
    classify (decodeWord 0xD1B46D457C#40 .neg).1 = .err ∧ isComma 0xD1B46D457C#40 = true ∧
    classify (decodeWord 0xD1B46D18BC#40 .neg).1 = .err ∧ isComma 0xD1B46D18BC#40 = false := by decide +kernel

/-! ### The scrambler and the frame check -/

/-- 43_scrambler.md R199. -/
theorem test_scramble :
    scramble 0x7FFFFF#23 0x00000000#32 = (0x007C0000#32, 0x003E00#23) ∧
    scramble 0x7FFFFF#23 0xDEADBEEF#32 = (0x52EDBEEF#32, 0x7DB74A#23) := by decide +kernel

/-- 43_scrambler.md R199: a descrambler from state 0 is wrong below bit 23 of its first word alone. -/
theorem test_descramble :
    descrambleAll 0 [0x52EDBEEF#32, 0x36D86B11#32, 0x7B014759#32] =
      [0xDED1BEEF#32, 0x12345678#32, 0xCAFEF00D#32] := by decide +kernel

/-- The CRC-32 check value over "123456789" (44_framer.md R206). -/
theorem test_crc_check :
    crcBytes [0x31#8, 0x32#8, 0x33#8, 0x34#8, 0x35#8, 0x36#8, 0x37#8, 0x38#8, 0x39#8] = 0xCBF43926#32 := by
  decide +kernel

/-- 44_framer.md R206, R207. -/
theorem test_buildFrame :
    buildFrame typeWrite 0xF#4 0x100#32 0xDEADBEEF#32 =
      [.sof, .data 0x00000F01#32, .data 0x00000100#32, .data 0xDEADBEEF#32, .data 0xEEE1CA71#32] ∧
    buildFrame typeRead 0xF#4 0x200#32 0#32 =
      [.sof, .data 0x00000F02#32, .data 0x00000200#32, .data 0#32, .data 0x9389BD1F#32] := by decide +kernel

/-- 30_encoding.md R89. -/
theorem test_byteMask : byteMask 0x2#4 = 0x0000FF00#32 := by decide

/-- 45_bustunnel.md R241: byte enable 0x2 writes byte 1 only. -/
theorem test_memWrite :
    memRead (memWrite (memWrite [] 0x200#32 0xF#4 0x12345678#32) 0x200#32 0x2#4 0x0000AB00#32) 0x200#32 =
      0x1234AB78#32 := by decide +kernel

/-- Writing the unlisted value back leaves the memory empty. -/
theorem test_memWrite_canonical : memWrite (memWrite [] 0x200#32 0xF#4 0x12345678#32) 0x200#32 0xF#4 0#32 = [] := by
  decide +kernel

/-! ### One step on a small state -/

/-- The parameters of 95_test_vectors.md section 0. -/
def testParams (role : Role) : Params :=
  { Params.default role with
    txDwell := 4, lockCount := 4, alignTimeout := 200, slipLimit := 160, confirmWindow := 8, errThreshold := 4 }

/-- An endpoint with those parameters in a link state, `phy_ready` sampled as 1. -/
def testState (role : Role) (st : LinkState) : State :=
  let s := State.resetOf (testParams role)
  { s with line := { s.line with linkState := st }, regs := { s.regs with phyReadyLast := true } }

/-- The same, locked at rotation 7. -/
def lockedState (role : Role) (st : LinkState) : State :=
  let s := testState role st
  s.putLine { s.line with lock := true, alignOffset := 7 }

/-- A check on the next state. -/
def next? (o : Result) (p : State → Bool) : Bool :=
  match o with
  | .next t => p t
  | _ => false

/-- Every step of a run from reset is a next state, and the check holds at its end. -/
def oneStep (s : State) (p : State → Bool) : Bool := next? (step s) p

/-- The first tick after reset is a RESET tick (42_linktrainer.md R163): IDLE from RD NEG, then SEND_TRAINING. -/
theorem test_step_reset :
    oneStep State.reset (fun t => t.line.linkState == .sendTraining && t.ports.tx == 0xD1B46D197C#40 &&
      t.line.encRd == .pos && t.ports.delayCalibrate && t.tick == 1) = true := by decide +kernel

/-- A word placed by `withFetchWord` is the one the next step runs. -/
theorem test_step_fetchWord :
    oneStep (State.reset.withFetchWord 16 0x17C) (fun t => t.rx.lanes == [.valid .comma] && t.line.decRd == .pos) &&
    oneStep (State.reset.withFetchWord 40 0xD1B46D197C) (fun t => t.ports.commaDetected && t.line.commaRun == 1) &&
    oneStep (State.reset.withFetchWord 8 1) (fun t => t.bus.reqState == .writing && t.bus.pktWords.length == 5) &&
    oneStep (State.reset.withFetchWord 32 1) (fun t => t.bus.compOp == .busWrite 0#32 0#32 0#4) = true := by
  decide +kernel

/-- A data word makes a hunting endpoint slip (41_bitaligner.md R144). -/
theorem test_hunt_slips :
    next? (exec (.lineData .neg 0#32) (testState .master .waitAlign)) (fun t => t.line.alignOffset == 1 &&
      t.line.slipCount == 1 && t.ports.bitslipRequest && t.line.timer == 1) = true := by decide +kernel

/-- READY with offset 7 reads STATUS 0x0007044D (47_control.md R287). -/
theorem test_status :
    next? (exec .csrrStatus (lockedState .master .ready)) (fun t => t.ports.hostValue == 0x0007044D#32) = true := by
  decide +kernel

/-- After `rst` STATUS reads 0 (10_state.md R52). -/
theorem test_status_reset : next? (exec .csrrStatus State.reset) (fun t => t.ports.hostValue == 0#32) = true := by
  decide +kernel

/-- An ERR word in ALIGNED is CONFIRM_FAIL and is counted (42_linktrainer.md R166). -/
theorem test_confirmFail :
    next? (exec (.lineErr .neg 0#40) (lockedState .master .aligned)) (fun t => t.line.linkState == .reset &&
      t.regs.cause == 5 && t.regs.decodeErrorCount == 1) = true := by decide +kernel

/-- A SOF waits for an IDLE word (46_endpoint.md R263). -/
theorem test_sof_waits :
    let s := lockedState .master .ready
    let s := { s with line := { s.line with txLastIdle := false }, bridge := { s.bridge with txq := [.sof] } }
    next? (exec .idleNeg s) (fun t => t.ports.tx == 0xD1B46D197C#40 && t.bridge.txq == [.sof] &&
      t.line.txLastIdle) = true := by decide +kernel

/-- A SOF received in READY reseeds the descrambler and is delivered (46_endpoint.md R264). -/
theorem test_sof_received :
    let s := lockedState .slave .ready
    let s := s.putLine { s.line with dscrState := 5#23 }
    next? (exec .sofNeg s) (fun t => t.bridge.rxq == [.sof] && t.line.dscrState == 0x7FFFFF#23) = true := by
  decide +kernel

/-- The response of 45_bustunnel.md R239 completes the read. -/
theorem test_response :
    let txn : BusTxn := { we := false, addr := 0x200#32, data := 0, be := 0xF#4 }
    let s := lockedState .master .ready
    let s := { s with
      bus := { s.bus with reqState := .reading, curTxn := some txn, pendingRead := some 0x200#32 }
      ports := { s.ports with txnIn := some txn } }
    next? (exec (.msgResponse 0xF#4 0x200#32 0x1234AB78#32) s) (fun t =>
      t.busLog == [.complete txn 0x1234AB78#32] && t.bus.reqState == .idle && t.ports.txnIn == none) = true := by
  decide +kernel

/-- A READ of 0x200 whose bus returns 0x1234AB78 loads the frame of 45_bustunnel.md R242. -/
theorem test_response_frame :
    let s := lockedState .slave .ready
    let s := { s with
      bus := { s.bus with compOp := .busRead 0x200#32 0xF#4 false }, agenda := [.busDone (some 0x1234AB78#32)] }
    oneStep s (fun t => t.bus.pktWords ==
      [.sof, .data 0x00000F03#32, .data 0x00000200#32, .data 0x1234AB78#32, .data 0x3B19493D#32]) = true := by
  decide +kernel

/-- The CRC word of the frame of 44_framer.md R213 delivers its message. -/
theorem test_crc_word :
    let s := lockedState .slave .ready
    let s := { s with
      bus := { s.bus with depState := .collect, depBuf := [0x00000F01#32, 0x00000100#32, 0xDEADBEEF#32] }
      bridge := { s.bridge with rxq := [.data 0xEEE1CA71#32] }, agenda := [.depacketizer] }
    oneStep s (fun t => t.bus.held ==
      some { mtype := 1#8, be := 0xF#4, addr := 0x100#32, data := 0xDEADBEEF#32 }) = true := by decide +kernel

/-! ### Witnesses: states and operands that meet the hypotheses of the statements, clause by clause -/

/-- A locked endpoint in READY with a schedule. -/
def readyWith (role : Role) (a : List Action) : State := (lockedState role .ready).putAgenda a

/-- The transaction of the examples. -/
def aRead : BusTxn := { we := false, addr := 0x200#32, data := 0, be := 0xF#4 }
/-- Its write. -/
def aWrite : BusTxn := { we := true, addr := 0x100#32, data := 0xDEADBEEF#32, be := 0xF#4 }

/-- A requester waiting for the response to its read. -/
def readingState : State :=
  let s := lockedState .master .ready
  { s with
    bus := { s.bus with reqState := .reading, curTxn := some aRead, pendingRead := some 0x200#32 }
    ports := { s.ports with txnIn := some aRead } }

/-- A requester with one word of its write's frame left. -/
def writingState (a : List Action) : State :=
  let s := readyWith .master a
  { s with
    bus := { s.bus with reqState := .writing, curTxn := some aWrite, pktAck := true, pktWords := [.data 0xEEE1CA71#32] }
    ports := { s.ports with txnIn := some aWrite } }

/-- A window whose only comma is at rotation 10. -/
def driftWindow : BitVec 80 := 0x5F000#80

theorem witness_DecodeEncodeAgree :
    (Instr.lineErr .pos 0#40).wf = true ∧ (Instr.invalidGroup .neg 0#10).wf = true ∧
    (Instr.malformedHeader 0#32 0#32 0#32).wf = true ∧ (Instr.csrReserved true 0x11#32 1#32).wf = true ∧
    (Instr.lineData .neg 0xFFFFFFFF#32).wf = true ∧ Instr.d31_7pos.wf = true := by decide +kernel

theorem witness_DecodeInvertsEncode :
    (encodeSymbol .comma .neg).1 = 0x17C#10 ∧ ∀ sym ∈ alphabet, (encodeSymbol sym .neg).1 ≠ 0x0BC#10 := by
  decide +kernel

/-- A fourth lane, and a fifth that begins a new word. -/
theorem witness_CodeGroupRowsDecode :
    codeGroupOf .d3_3neg = some (.neg, 0x0E3#10) ∧ codeGroupOf (.invalidGroup .pos 0#10) = some (.pos, 0#10) ∧
    next? (exec .d3_3neg (State.reset.putRx { window := 0, lanes := [.invalid, .invalid, .invalid] }))
      (fun t => t.rx.lanes.length == 4) = true ∧
    next? (exec .d3_3neg (State.reset.putRx { window := 0, lanes := [.invalid, .invalid, .invalid, .invalid] }))
      (fun t => t.rx.lanes.length == 1) = true := by decide +kernel

theorem witness_LegalRowsAreValid :
    codeGroupOf .k28_5neg = some (.neg, 0x17C#10) ∧ Instr.k28_5neg.wf = true ∧ State.reset.line.decRd = .neg ∧
    codeGroupOf (.invalidGroup .neg 0x0BC#10) = some (.neg, 0x0BC#10) ∧
    (Instr.invalidGroup .neg 0x0BC#10).wf = true := by decide +kernel

/-- The words of every line-word row, and a state outside RESET (LineWordDecodes, LineWordFrame, TransmitSelection,
ReceiveDelivery, DecodeErrorsCounted). -/
theorem witness_lineWords :
    lineWordOf .idleNeg = some 0xD1B46D197C#40 ∧ lineWordOf .idlePos = some 0x2E4B92E683#40 ∧
    lineWordOf .sofNeg = some 0x2E4B92E45B#40 ∧ lineWordOf .sofPos = some 0xD1B46D1BA4#40 ∧
    lineWordOf (.lineData .neg 0#32) = some 0x2E4B92E4B9#40 ∧ lineWordOf (.lineErr .neg 0#40) = some 0#40 ∧
    (lockedState .slave .ready).line.linkState ≠ .reset := by decide +kernel

/-- One comma from lock, with a comma and without. -/
theorem witness_HuntStep :
    let s := testState .master .waitAlign
    let s := s.putLine { s.line with commaRun := 3, alignOffset := 39, slipCount := 159 }
    s.cfg.legal = true ∧ s.line.linkState = .waitAlign ∧ s.line.lock = false ∧
    s.line.commaRun.toNat < s.cfg.lockCount ∧ isComma 0xD1B46D197C#40 = true ∧ isComma 0x2E4B92E45B#40 = false ∧
    next? (exec .idleNeg s) (fun t => t.line.lock && t.line.commaRun == 4) = true ∧
    next? (exec .sofNeg s) (fun t => t.line.alignOffset == 0 && t.line.slipCount == 160) = true := by decide +kernel

/-- The four clauses of the drift check: a comma; a sighting that breaks lock; one that does not; neither. -/
theorem witness_DriftCheck :
    let s := lockedState .master .ready
    let last := { s with line := { s.line with driftRun := 3 }, rx := { s.rx with window := driftWindow } }
    let early := { s with line := { s.line with driftRun := 2 }, rx := { s.rx with window := driftWindow } }
    s.cfg.legal = true ∧ s.line.lock = true ∧ last.line.driftRun.toNat < last.cfg.lockCount ∧
    isComma (alignedWord driftWindow 10) = true ∧ last.line.alignOffset.val ≠ 10 ∧
    next? (exec .idleNeg last) (fun t => t.line.lock && t.line.driftRun == 0) = true ∧
    next? (exec .sofNeg last) (fun t => !t.line.lock && t.line.driftRun == 0) = true ∧
    next? (exec .sofNeg early) (fun t => t.line.lock && t.line.driftRun == 3) = true ∧
    next? (exec .sofNeg s) (fun t => t.line.lock && t.line.driftRun == 0) = true := by decide +kernel

theorem witness_ErrorStateHolds :
    (testState .master .error).line.linkState = .error ∧ (testState .master .error).regs.linkResetReq = false := by
  decide

/-- Both overrides, and the request in ERROR. -/
theorem witness_Overrides :
    let s := testState .slave .ready
    let asked := s.putRegs { s.regs with linkResetReq := true }
    let down := s.putRegs { s.regs with phyReadyLast := false }
    asked.regs.linkResetReq = true ∧ asked.line.linkState ≠ .reset ∧
    down.regs.phyReadyLast = false ∧ down.line.linkState ≠ .error ∧
    next? (exec .idleNeg asked) (fun t => t.regs.cause == 6 && t.events == [.fallBack .hostReset]) = true ∧
    next? (exec .idleNeg down) (fun t => t.regs.cause == 7 && t.events == [.fallBack .phyDown]) = true ∧
    next? (exec .idleNeg (asked.putLine { asked.line with linkState := .error }))
      (fun t => t.line.linkState == .reset) = true := by decide +kernel

/-- Every branch of the rules of SEND_TRAINING and WAIT_ALIGN is taken, each at its limit. -/
theorem witness_SendTrainingRule_WaitAlignRule :
    let s := testState .master .sendTraining
    let u := testState .master .waitAlign
    s.regs.linkResetReq = false ∧ s.regs.phyReadyLast = true ∧
    next? (exec .sofNeg (s.putLine { s.line with slipCount := 159 })) (fun t => t.line.linkState == .error) = true ∧
    next? (exec .sofNeg (s.putLine { s.line with timer := 3 })) (fun t => t.line.linkState == .waitAlign) = true ∧
    next? (exec .sofNeg (s.putLine { s.line with timer := 2 })) (fun t => t.line.linkState == .sendTraining) = true ∧
    next? (exec .idleNeg (u.putLine { u.line with commaRun := 3 })) (fun t => t.line.linkState == .aligned) = true ∧
    next? (exec .sofNeg (u.putLine { u.line with slipCount := 159, timer := 199 })) (fun t => t.regs.cause == 4) = true ∧
    next? (exec .sofNeg (u.putLine { u.line with timer := 199 })) (fun t => t.regs.cause == 3) = true ∧
    next? (exec .sofNeg (u.putLine { u.line with timer := 198 })) (fun t => t.line.linkState == .waitAlign) = true := by
  decide +kernel

/-- The same of ALIGNED and READY. -/
theorem witness_AlignedRule_ReadyRule :
    let s := lockedState .master .aligned
    let u := lockedState .master .ready
    let lost := fun (x : State) =>
      { x with line := { x.line with driftRun := 3 }, rx := { x.rx with window := driftWindow } }
    s.regs.linkResetReq = false ∧ s.regs.phyReadyLast = true ∧ u.cfg.legal = true ∧
    u.line.errCount.toNat < u.cfg.errThreshold ∧
    next? (exec .sofNeg (lost s)) (fun t => t.regs.cause == 2) = true ∧
    next? (exec (.lineErr .neg 0#40) s) (fun t => t.regs.cause == 5 &&
      t.events == [.codeViolation, .fallBack .confirmFail]) = true ∧
    next? (exec .idleNeg (s.putLine { s.line with timer := 7 })) (fun t => t.line.linkState == .ready) = true ∧
    next? (exec .idleNeg (s.putLine { s.line with timer := 6 })) (fun t => t.line.linkState == .aligned) = true ∧
    next? (exec .sofNeg (lost u)) (fun t => t.regs.cause == 2) = true ∧
    next? (exec (.lineErr .neg 0#40) (u.putLine { u.line with errCount := 3 })) (fun t => t.regs.cause == 1) = true ∧
    next? (exec .idleNeg u) (fun t => t.line.linkState == .ready && t.line.errCount == 0) = true := by decide +kernel

/-- The clauses of transmit selection. -/
theorem witness_TransmitSelection :
    let s := lockedState .master .ready
    let sof := s.putBridge { s.bridge with txq := [.sof] }
    let data := s.putBridge { s.bridge with txq := [.data 0#32] }
    sof.bridge.txq = .sof :: [] ∧ sof.line.txLastIdle = true ∧ data.regs.scrBypass = false ∧
    next? (exec .idleNeg sof) (fun t => t.ports.tx == 0x2E4B92E45B#40 && t.bridge.txq == []) = true ∧
    next? (exec .idleNeg data) (fun t => t.line.scrState == 0x003E00#23) = true ∧
    next? (exec .idleNeg (data.putRegs { data.regs with scrBypass := true }))
      (fun t => t.ports.tx == 0x2E4B92E4B9#40 && t.line.scrState == 0x7FFFFF#23) = true := by decide +kernel

/-- The classes of a delivered word, one place left in `rxq` and none. -/
theorem witness_ReceiveDelivery :
    let s := lockedState .slave .ready
    let last := s.putBridge { s.bridge with rxq := List.replicate 15 .err }
    let full := s.putBridge { s.bridge with rxq := List.replicate 16 .err }
    classHere 0x2E4B92E45B#40 s = .sof ∧ classHere 0#40 s = .err ∧ classHere 0xD1B46D197C#40 s = .idle ∧
    classHere 0x6854D57A3A#40 s = .data 0xDEADBEEF#32 ∧
    last.bridge.rxq.length < last.cfg.rxqDepth ∧ full.cfg.rxqDepth ≤ full.bridge.rxq.length ∧
    next? (exec .sofNeg last) (fun t => t.bridge.rxq.length == 16 && !t.regs.rxOverflow) = true ∧
    next? (exec .sofNeg full) (fun t => t.bridge.rxq.length == 16 && t.regs.rxOverflow) = true := by decide +kernel

/-- A RESET tick with and without the request and `phy_ready` (also of LinkResetSettlesTunnel). -/
theorem witness_ResetTick :
    let s := fun (phy : Bool) => (State.reset).putAgenda [.tick 0x3FF#40 phy false]
    (s true).cfg.legal = true ∧ (s true).line.linkState = .reset ∧
    oneStep (s true) (fun t => t.line.linkState == .sendTraining && t.line.rxPrev == 0x3FF#40) = true ∧
    oneStep (s false) (fun t => t.line.linkState == .reset) = true ∧
    oneStep ((s true).putRegs { State.reset.regs with linkResetReq := true })
      (fun t => t.line.linkState == .reset && !t.regs.linkResetReq) = true := by decide +kernel

/-- Each outstanding transaction at a link reset. -/
theorem witness_LinkResetSettlesTunnel :
    let fall := fun (s : State) =>
      { s with line := { s.line with linkState := .reset }, agenda := [.tick 0#40 true false] }
    let comp := fun (op : CompOp) =>
      let s := lockedState .slave .ready
      fall (s.putBus { s.bus with compOp := op })
    oneStep (fall readingState) (fun t => t.busLog == [.complete aRead 0xFFFFFFFF#32]) = true ∧
    oneStep (fall (writingState [])) (fun t => t.busLog == [.complete aWrite 0#32]) = true ∧
    oneStep (comp (.busRead 0#32 0#4 false)) (fun t => t.bus.compOp == .busRead 0#32 0#4 true) = true ∧
    oneStep (comp (.busWrite 0#32 0#32 0#4)) (fun t => t.bus.compOp == .busWrite 0#32 0#32 0#4) = true ∧
    oneStep (comp .respond) (fun t => t.bus.compOp == .idle) = true := by decide +kernel

/-- A state whose `held` has a message. -/
def holding (m : Message) (s : State) : State := s.putBus { s.bus with held := some m }

/-- A matching RESPONSE, one for another address, and a WRITE at the requester, each in `held`. -/
theorem witness_RequesterReceives :
    let m := fun (t : Byte) (a : Word) => ({ mtype := t, be := 0#4, addr := a, data := 0#32 } : Message)
    messageOf (.msgResponse 0#4 0x200#32 0#32) = some (m 3#8 0x200#32) ∧
    (holding (m 3#8 0x200#32) readingState).bus.held = some (m 3#8 0x200#32) ∧
    readingState.cfg.role = .master ∧ readingState.bus.reqState = .reading ∧
    readingState.bus.pendingRead = some 0x200#32 ∧ readingState.bus.curTxn = some aRead ∧
    next? (exec (.msgResponse 0#4 0x200#32 0#32) (holding (m 3#8 0x200#32) readingState))
      (fun t => t.busLog == [.complete aRead 0#32]) = true ∧
    next? (exec (.msgResponse 0#4 0x204#32 0#32) (holding (m 3#8 0x204#32) readingState))
      (fun t => t.events.length == 1) = true ∧
    next? (exec (.msgWrite 0#4 0x200#32 0#32) (holding (m 1#8 0x200#32) readingState))
      (fun t => t.events.length == 1) = true := by decide +kernel

/-- The three messages at a free completer, each in `held`; one at a busy completer, and one that is not in `held` yet. -/
theorem witness_CompleterReceives_BusyCompleterHolds :
    let s := lockedState .slave .ready
    let m := fun (t : Byte) => ({ mtype := t, be := 0xF#4, addr := 0x200#32, data := 7#32 } : Message)
    let busy := s.putBus { s.bus with compOp := .busWrite 0#32 0#32 0#4 }
    s.cfg.role = .slave ∧ s.bus.compOp = .idle ∧ s.bus.pktWords = [] ∧ busy.bus.compOp ≠ .idle ∧
    messageOf (.msgWrite 0xF#4 0x200#32 7#32) = some (m 1#8) ∧ (holding (m 1#8) s).bus.held = some (m 1#8) ∧
    next? (exec (.msgWrite 0xF#4 0x200#32 7#32) (holding (m 1#8) s))
      (fun t => t.busLog == [.memWrite 0x200#32 0xF#4 7#32]) = true ∧
    next? (exec (.msgRead 0xF#4 0x200#32 7#32) (holding (m 2#8) s))
      (fun t => t.busLog == [.memRead 0x200#32 0xF#4]) = true ∧
    next? (exec (.msgResponse 0xF#4 0x200#32 7#32) (holding (m 3#8) s)) (fun t => t.events.length == 1) = true ∧
    next? (exec (.msgRead 0xF#4 0x200#32 7#32) busy) (fun t => t.bus.held.isSome && t.busLog == []) = true ∧
    next? (exec (.msgRead 0xF#4 0x200#32 7#32) s) (fun t => t.busLog == [.memRead 0x200#32 0xF#4]) = true := by
  decide +kernel

/-- The last entry of a write's frame, with one place left in `txq` and with none. -/
theorem witness_PacketizerStepRule :
    let s := writingState [.packetizer]
    let one := s.putBridge { s.bridge with txq := List.replicate 15 (.data 0#32) }
    let none' := s.putBridge { s.bridge with txq := List.replicate 16 (.data 0#32) }
    s.cfg.legal = true ∧ one.bridge.txq.length < one.cfg.txqDepth ∧ none'.cfg.txqDepth ≤ none'.bridge.txq.length ∧
    s.bus.compOp ≠ .respond ∧
    oneStep one (fun t => t.busLog == [.complete aWrite 0#32] && t.bridge.txq.length == 16) = true ∧
    oneStep none' (fun t => t == none'.putAgenda []) = true ∧
    oneStep (one.putBus { one.bus with pktAck := false, reqState := .reading }) (fun t => t.busLog == []) = true := by
  decide +kernel

/-- The clauses of the Depacketizer: two words short of a whole frame, and a whole frame with a wrong CRC. -/
theorem witness_DepacketizerStepRule :
    let s := fun (st : DepState) (buf : List Word) (e : RxEntry) =>
      let r := readyWith .slave [.depacketizer]
      { r with bus := { r.bus with depState := st, depBuf := buf }, bridge := { r.bridge with rxq := [e] } }
    oneStep (s .hunt [] .sof) (fun t => t.bus.depState == .collect) = true ∧
    oneStep (s .hunt [] (.data 0#32)) (fun t => t.bus.depState == .hunt && t.bridge.rxq == []) = true ∧
    oneStep (s .collect [1#32] .sof) (fun t => t.regs.frameDropCount == 1 && t.bus.depState == .collect) = true ∧
    oneStep (s .collect [1#32] .err) (fun t => t.regs.frameDropCount == 1 && t.bus.depState == .hunt) = true ∧
    oneStep (s .collect [1#32, 2#32] (.data 3#32)) (fun t => t.bus.depBuf == [1#32, 2#32, 3#32]) = true ∧
    oneStep (s .collect [0xF01#32, 0x100#32, 0xDEADBEEF#32] (.data 0#32))
      (fun t => t.regs.frameDropCount == 1 && t.bus.held == none) = true := by decide +kernel

/-- A whole frame behind an open one. -/
theorem witness_FrameBecomesMessage :
    let r := readyWith .slave (List.replicate 5 .depacketizer)
    let s := { r with
      bus := { r.bus with depState := .collect, depBuf := [1#32] }
      bridge := { r.bridge with rxq := (buildFrame 1#8 0xF#4 0x100#32 0xDEADBEEF#32).map receivedAs ++ [.sof] } }
    s.cfg.legal = true ∧ s.bus.held = none ∧ s.agenda = List.replicate 5 .depacketizer ∧
    next? (Host.Core.run Sys2Proof.core 5 s) (fun t => t.bus.held.isSome && t.regs.frameDropCount == 1 &&
      t.bridge.rxq == [.sof]) = true := by decide +kernel

/-- A write, a fresh read, a stale one and nothing outstanding. -/
theorem witness_CompleterBusDoneRule :
    let s := fun (op : CompOp) =>
      let r := readyWith .slave [.busDone none]
      r.putBus { r.bus with compOp := op }
    (s .idle).cfg.legal = true ∧ (s .idle).agenda = [.busDone none] ∧ (s .idle).line.linkState = .ready ∧
    oneStep (s (.busWrite 1#32 0xFF#32 0xF#4)) (fun t => t.mem == [(4, 0xFF#8)] && t.bus.compOp == .idle) = true ∧
    oneStep (s (.busRead 1#32 0xF#4 false)) (fun t => t.bus.compOp == .respond) = true ∧
    oneStep (s (.busRead 1#32 0xF#4 true)) (fun t => t.bus.compOp == .idle && t.bus.pktWords == []) = true ∧
    oneStep (s .respond) (fun t => t.bus.compOp == .respond) = true := by decide +kernel

/-- The last legal cause code and the first reserved one. -/
theorem witness_StatusRegister_WhereFaultsArise :
    let s := fun (c : BitVec 4) => State.reset.putRegs { State.reset.regs with cause := c }
    (s 7).regs.cause.toNat < 8 ∧ 8 ≤ (s 8).regs.cause.toNat ∧
    next? (exec .csrrStatus (s 7)) (fun t => t.ports.hostValue == 0x7000#32) = true ∧
    oneStep (s 7) (fun t => t.regs.cause == 7) = true ∧
    (match step ((s 8).putAgenda [.hostWrite 0x08#32 2#32]) with | .fault _ => true | _ => false) = true ∧
    oneStep (State.reset.putAgenda [.encode true 0xFB#8]) (fun t => t.ports.encGroup == 0x05B#10) = true ∧
    (match step (State.reset.putAgenda [.encode true 0x1C#8]) with | .fault _ => true | _ => false) = true := by
  decide +kernel

/-- The first unused offset, one past the last register's word, and one that is no multiple of 4. -/
theorem witness_UnusedOffsets :
    0x10 < (0x14#32).toNat ∧ 0x10 < (0x11#32).toNat ∧ (0x03#32).toNat % 4 ≠ 0 ∧
    oneStep (State.reset.putAgenda [.hostRead 0x14#32]) (fun t => t.ports.hostValue == 0) = true ∧
    oneStep (State.reset.putAgenda [.hostWrite 0x01#32 3#32]) (fun t => t.regs == State.reset.regs) = true := by
  decide +kernel

/-- Where R236 holds and the bus presents the transaction (RequesterAcceptsWrite, RequesterAcceptsRead), and where the row
presents it (TransactionWaits). -/
theorem witness_RequesterAccepts :
    let s := lockedState .master .ready
    s.cfg.role = .master ∧ s.bus.reqState = .idle ∧ s.bus.pktWords = [] ∧ s.line.linkState = .ready ∧
    s.ports.txnIn = none ∧
    next? (exec (.txnRd 0x200#32 0#32 0xF#4) (s.putPorts { s.ports with txnIn := some aRead }))
      (fun t => t.bus.pendingRead == some 0x200#32) = true ∧
    next? (exec (.txnWr 0x100#32 0xDEADBEEF#32 0xF#4) (s.putPorts { s.ports with txnIn := some aWrite }))
      (fun t => t.bus.curTxn == some aWrite) = true ∧
    next? (exec (.txnWr 0x100#32 0xDEADBEEF#32 0xF#4) s) (fun t => t.bus.curTxn == some aWrite) = true := by
  decide +kernel

/-- The completion clause: a coherent requester about to queue the last entry. -/
theorem witness_RequesterAcceptsWrite_completes :
    Coherent (writingState [.packetizer]) ∧ (writingState [.packetizer]).bus.reqState = .writing ∧
    (writingState [.packetizer]).cfg.legal = true := by
  refine ⟨?_, by decide, by decide⟩
  show RequesterCoherent _ _
  constructor
  · intro h; exact absurd h (by decide)
  · intro _; exact ⟨by decide, rfl, aWrite, rfl, rfl⟩
  · intro h; exact absurd h (by decide)
  · decide
  · intro t h; cases h; rfl
  · rfl

/-- The link-reset clause of a write, and a read that stays pending over a step (RequesterAcceptsWrite,
RequesterAcceptsRead). -/
theorem witness_RequesterAccepts_ends :
    let w := writingState [.tick 0 true false]
    let down := w.putLine { w.line with linkState := .reset }
    down.cfg.legal = true ∧ down.cfg.role = .master ∧ down.bus.reqState = .writing ∧ down.bus.curTxn = some aWrite ∧
    oneStep down (fun t => t.busLog == [.complete aWrite 0] && t.bus.pktWords == []) = true ∧
    readingState.bus.reqState = .reading ∧ readingState.bus.pendingRead = some 0x200#32 ∧
    oneStep readingState (fun t => t.bus.pendingRead == some 0x200#32) = true := by decide +kernel

/-- Each reason to wait. -/
theorem witness_TransactionWaits :
    (lockedState .slave .ready).cfg.role ≠ .master ∧ readingState.bus.reqState ≠ .idle ∧
    (writingState []).bus.pktWords ≠ [] ∧ (lockedState .master .aligned).line.linkState ≠ .ready ∧
    readingState.ports.txnIn = some aRead ∧ aRead ≠ aWrite ∧
    next? (exec (.txnWr 0x100#32 0xDEADBEEF#32 0xF#4) readingState) (fun t => t == readingState) = true := by
  decide +kernel

/-- The premises of a tick's clause, of a message's and of a malformed frame's. -/
theorem witness_StepRunsDecodedInstruction :
    let s := testState .master .waitAlign
    let held := readingState.putBus { readingState.bus with
      held := some { mtype := 3#8, be := 0xF#4, addr := 0x200#32, data := 5#32 } }
    (s.cfg.legal = true ∧ s.line.linkState ≠ .reset ∧
      (decode .lineWord .neg (bytesOf 5 ((0#40 ++ s.line.rxPrev : BitVec 80).extractLsb' 0 40).toNat)).toOption =
        some (.lineErr .neg 0#40, [])) ∧
    (decode .frameHeader .neg (Image.header (headerWord 3#8 0xF#4) 0x200#32 5#32).bytes).toOption =
      some (.msgResponse 0xF#4 0x200#32 5#32, []) ∧
    oneStep (held.putAgenda [.receive]) (fun t => t.busLog == [.complete aRead 5#32]) = true ∧
    legalHeader 0x00000004#32 = false ∧
    (decode .frameHeader .neg (Image.header 4#32 1#32 2#32).bytes).toOption =
      some (.malformedHeader 4#32 1#32 2#32, []) := by decide +kernel

/-- The invariants hold in a state from which a step goes on (BoundsKept, CoherenceKept, NoFaultWithinBounds). -/
theorem witness_invariants : Bounds State.reset ∧ Coherent State.reset ∧ oneStep State.reset (fun _ => true) = true := by
  refine ⟨⟨?_, ?_, by decide, rfl⟩, ?_, by decide +kernel⟩
  · constructor <;> decide
  · constructor <;> decide
  · show RequesterCoherent _ _
    constructor <;> decide

/-- ERROR with nothing scheduled, and a tick that leaves RESET (ErrorIsSticky, OnlyTicksMoveLinkState). -/
theorem witness_ErrorIsSticky_OnlyTicksMoveLinkState :
    (testState .master .error).regs.linkResetReq = false ∧ (testState .master .error).agenda.head? ≠ some .rst ∧
    oneStep (testState .master .error) (fun t => t.line.linkState == .error) = true ∧
    oneStep State.reset (fun t => t.line.linkState != State.reset.line.linkState) = true := by decide +kernel

theorem witness_PowerUpReset :
    (writingState [.rst]).cfg.legal = true ∧ (writingState [.rst]).agenda = [.rst] ∧
    oneStep (writingState [.rst]) (fun t => t.ports.txnIn == none && t.busLog == []) = true := by decide +kernel

/-- A byte changed by another master, at the highest address, and by the end of a write cycle. -/
theorem witness_OnlyBusWritesChangeMemory :
    let s := readyWith .slave [.busDone none]
    let wr := s.putBus { s.bus with compOp := .busWrite 0#32 0x01020304#32 0x8#4 }
    Memory.wf State.reset.mem = true ∧
    oneStep (State.reset.putAgenda [.otherMaster 0xFFFFFFFF#32 0x8#4 0xFF000000#32])
      (fun t => Memory.read t.mem (4 * 0xFFFFFFFF + 3) == 0xFF#8) = true ∧
    oneStep wr (fun t => Memory.read t.mem 3 == 0x01#8) = true := by decide +kernel

theorem witness_RxIdleOnlySampled : State.reset.cfg.legal = true ∧ State.reset.regs.cause.toNat < 8 := by decide

/-- A memory with one byte set, and another address. -/
theorem witness_WriteAppliesByteMask :
    Memory.wf [(0x800, 0xFF#8)] = true ∧ memRead [(0x800, 0xFF#8)] 0x200#32 = 0xFF#32 ∧ (0x201#32 : Word) ≠ 0x200#32 := by
  decide +kernel

/-- The example of 42_linktrainer.md R174: a RESET tick, and the ticks before and at each limit. -/
theorem witness_FailureTime :
    let tick := [Action.tick 0#40 true false]
    let at' := fun (cfg : Params) (n k : Nat) =>
      let s := (testState .master .waitAlign).putAgenda tick
      { s with cfg := cfg, line := { s.line with slipCount := BitVec.ofNat 32 n, timer := BitVec.ofNat 32 k } }
    let cfg := testParams .master
    let short := { cfg with alignTimeout := 20 }
    failureTicks cfg = 160 ∧ failureTicks short = 24 ∧ failureCause cfg = 4 ∧ failureCause short = 3 ∧
    Searching (at' cfg 158 154) 158 ∧ Searching (at' cfg 159 155) 159 ∧ Searching (at' short 23 19) 23 ∧
    Searching (testState .master .sendTraining) 0 ∧ isComma (alignedWord (0#40 ++ 0#40) 0) = false ∧
    oneStep (at' cfg 158 154) (fun t => t.line.linkState == .waitAlign && t.line.slipCount == 159) = true ∧
    oneStep (at' cfg 159 155) (fun t => t.line.linkState == .error && t.regs.cause == 4) = true ∧
    oneStep (at' short 23 19) (fun t => t.line.linkState == .error && t.regs.cause == 3) = true ∧
    oneStep ((State.resetOf cfg).putAgenda tick) (fun t => t.line.linkState == .sendTraining) = true := by
  refine ⟨by decide, by decide, by decide, by decide, ?_, ?_, ?_, ?_, by decide +kernel, by decide +kernel,
    by decide +kernel, by decide +kernel, by decide +kernel⟩
  all_goals constructor <;> decide +kernel

/-- A channel with a delay of 47 bits: the first word sent is recovered from the second and the third raw words after. -/
theorem witness_WordRecovery :
    let c : Channel := { delay := 47, line := 5 }
    let sent : List LineWord := [0xD1B46D197C#40, 0x2E4B92E683#40, 1#40, 2#40]
    c.line < 2 ^ (c.delay + 40) ∧ (rawWords c sent).length = 4 ∧
    alignedWord ((rawWords c sent).getD 3 0 ++ (rawWords c sent).getD 2 0) (47 % 40) = 0xD1B46D197C#40 := by
  decide +kernel

/-- With a delay of 3 bits, the last bit of a channel's first content and the first bit sent (ChannelIsDelayLine). -/
theorem witness_ChannelIsDelayLine :
    let c : Channel := { delay := 3, line := 4 * 2 ^ 40 }
    let raw := rawWords c [1#40, 0#40, 0#40]
    c.line < 2 ^ (c.delay + 40) ∧ raw.length = 3 ∧
    (raw.getD 1 0).getLsbD 2 = true ∧ (raw.getD 1 0).getLsbD 3 = true ∧ (raw.getD 1 0).getLsbD 4 = false := by
  decide +kernel

/-- A neutral group, D21.5, and one that sets the disparity, K28.5 (DisparityResynchronises). -/
theorem witness_DisparityResynchronises :
    (∀ rd, rdSub6 (abcdei 0x155#10) rd = rd ∧ rdSub4 (fghj 0x155#10) rd = rd) ∧
    rdSub6 (abcdei 0x17C#10) .neg ≠ .neg := by
  refine ⟨fun rd => ?_, by decide +kernel⟩
  cases rd <;> decide +kernel

/-- Two words descrambled from an unrelated state (DescramblerSynchronises). -/
theorem witness_DescramblerSynchronises :
    let ys := descrambleAll 0 (scrambleAll 0x7FFFFF#23 [0x12345678#32, 0x9ABCDEF0#32])
    ys.length = 2 ∧ ys[1]? = some 0x9ABCDEF0#32 ∧ ys[0]? ≠ some 0x12345678#32 := by decide +kernel

/-- A legal build (InvariantsAtReset). -/
theorem witness_InvariantsAtReset : (Params.default .slave).legal = true := by decide

/-- A link in which a scheduled completion with a drawn value, a transport going down, a pass cut short and a pass of the
eager schedule are each one step (46_endpoint.md R271, R273, R276), and one that holds a reserved cause code. -/
theorem test_link_schedule :
    let b := lockedState .slave .ready
    let reading := b.putBus { b.bus with compOp := .busRead 0x200#32 0xF#4 false }
    let l := fun (moves : List LinkMove) =>
      { Link.start (testParams .master) (testParams .slave) ⟨7, 0⟩ ⟨13, 0⟩ [] moves with b := reading }
    let next := fun (r : LinkResult) (p : Link → Bool) => match r with | .next n => p n | _ => false
    next (linkStep (l [.bus .b (.busDone (some 0x1234AB78#32))]))
      (fun n => n.b.bus.pktWords.getD 3 .sof == .data 0x1234AB78#32 && n.schedule == []) = true ∧
    next (linkStep (l [.transport .b false true])) (fun n => !n.b.ports.phyReadyIn && n.b.ports.rxIdleIn) = true ∧
    next (linkStep (l [.endPass])) (fun n => n.phase == .between && n.b.bus.compOp == reading.bus.compOp) = true ∧
    next (linkStep (l [.eagerPass])) (fun n => n.b.bus.compOp == .respond && n.schedule == [.eagerPass]) = true ∧
    next (linkStep (l [])) (fun n => n.b.bus.compOp == .respond) = true ∧
    next (linkStep (l [.bus .b .rst])) (fun n => n.b == reading) = true ∧
    (match linkStep { l [] with b := reading.putRegs { reading.regs with cause := 8 } } with
      | .fault _ => true | _ => false) = true := by decide +kernel

/-- An RD beside a scheduled transaction (log entry 16): it waits for a tick while another is on A's bus; it does not end with
a completion before its own, and it binds its own value though another transaction is on the bus by then. -/
theorem test_link_statement_beside_schedule :
    let l := fun (a : State) (prog : List Stmt) =>
      { Link.start (testParams .master) (testParams .slave) ⟨7, 0⟩ ⟨13, 0⟩ prog [] with a := a, phase := .between }
    let next := fun (r : LinkResult) (p : Link → Bool) => match r with | .next n => p n | _ => false
    let busy := State.reset.putPorts { State.reset.ports with txnIn := some aWrite }
    let after := busy.signal (.complete aWrite 0#32)
    next (linkStep (l (lockedState .master .ready) [.rd 0x200#32 0xF#4 1]))
      (fun n => n.a.ports.txnIn == some aRead && n.program == [.wait 0 (some 1)]) = true ∧
    next (linkStep (l busy [.rd 0x200#32 0xF#4 1]))
      (fun n => n.phase == .secondTick && n.program == [.rd 0x200#32 0xF#4 1] && n.a.ports.txnIn == some aWrite) = true ∧
    next (linkStep (l after [.wait 1 (some 1)])) (fun n => n.phase == .secondTick && n.bound == []) = true ∧
    next (linkStep (l (after.signal (.complete aRead 5#32)) [.wait 1 (some 1)]))
      (fun n => n.program == [] && n.bound == [(1, 5#32)]) = true := by decide +kernel

/-- Two masters, two seeds, and a lock count below 3. -/
theorem witness_IllegalBuildsRefused :
    ({ testParams .master with lockCount := 2 } : Params).legal = false ∧
    ({ testParams .master with lockCount := 3 } : Params).legal = true ∧
    ({ testParams .master with lanes := 5 } : Params).legal = false ∧
    ({ testParams .master with txqDepth := 2 ^ 16 } : Params).legal = false ∧
    ({ testParams .master with txDwell := 2 ^ 32 - 1 } : Params).legal = true ∧
    ({ testParams .master with scrSeed := 0 } : Params).scrSeed ≠ (testParams .slave).scrSeed := by decide

end Sys2Proof.Tests
end

section
/-! What is refused (60_exceptions.md R316): the legal builds and the matched links as propositions, and no refusal from
anything that a step of an endpoint or of a link runs once its builds are accepted. -/

namespace Sys2Proof.Machine

/-! ### Legal builds and matched links -/

theorem inRange_iff {lo bits n : Nat} : inRange lo bits n = true ↔ lo ≤ n ∧ n < 2 ^ bits := by
  simp [inRange]

/-- The ranges of 00_scope.md R7 and the lane count of R8. -/
theorem Params.legal_iff (p : Params) : p.legal = true ↔
    p.lanes = 4 ∧ (1 ≤ p.txDwell ∧ p.txDwell < 2 ^ 32) ∧ (3 ≤ p.lockCount ∧ p.lockCount < 2 ^ 16) ∧
    (1 ≤ p.alignTimeout ∧ p.alignTimeout < 2 ^ 32) ∧ (1 ≤ p.slipLimit ∧ p.slipLimit < 2 ^ 32) ∧
    (1 ≤ p.confirmWindow ∧ p.confirmWindow < 2 ^ 32) ∧ (1 ≤ p.errThreshold ∧ p.errThreshold < 2 ^ 16) ∧
    (1 ≤ p.txqDepth ∧ p.txqDepth < 2 ^ 16) ∧ (1 ≤ p.rxqDepth ∧ p.rxqDepth < 2 ^ 16) := by
  simp only [Params.legal, Bool.and_eq_true, beq_iff_eq, inRange_iff, and_assoc]

/-- Four lanes of 10 bits hold a line word and four of 8 bits a stream word (00_scope.md R8). -/
theorem words_fit_lanes {lanes : Nat} (h : lanes = 4) :
    (∀ w : LineWord, w.toNat < 2 ^ (10 * lanes)) ∧ ∀ d : Word, d.toNat < 2 ^ (8 * lanes) := by
  subst h
  exact ⟨fun w => w.isLt, fun d => d.isLt⟩

theorem Link.matched_iff (l : Link) : l.matched = true ↔
    l.a.cfg.legal = true ∧ l.b.cfg.legal = true ∧ l.a.cfg.role = .master ∧ l.b.cfg.role = .slave ∧
    l.a.cfg.scrSeed = l.b.cfg.scrSeed := by
  simp only [Link.matched, Bool.and_eq_true, beq_iff_eq, and_assoc]

/-! ### A step of an endpoint -/

theorem step_of_illegal {s : State} (h : s.cfg.legal = false) : step s = .refused .illegalBuild := by
  simp [step, h]

theorem encodeStep_ne_refused (k : Bool) (v : Byte) (s : State) (r : Refusal) : encodeStep k v s ≠ .refused r := by
  unfold encodeStep
  split <;> simp

/-- Every action has a meaning: the instructions it can fetch are all modelled. -/
theorem perform_ne_refused (a : Action) (s : State) (r : Refusal) : perform a s ≠ .refused r := by
  rw [perform_eq]
  cases a with
  | hostRead off =>
    obtain ⟨f, hf, -⟩ | ⟨v, hv⟩ := exec_decodeRead off s
    · simp [hf]
    · simp [hv]
  | hostWrite off val =>
    obtain ⟨regs, hw, -⟩ := exec_decodeWrite off val s
    simp [hw]
  | encode k v => exact encodeStep_ne_refused k v s r
  | _ => simp

theorem takeStep_ne_refused (a : Action) (s : State) (r : Refusal) : takeStep a s ≠ .refused r := by
  unfold takeStep
  split
  · simp
  · exact perform_ne_refused a s r

theorem step_ne_refused_of_legal {s : State} (h : s.cfg.legal = true) (r : Refusal) : step s ≠ .refused r := by
  unfold step
  rw [if_pos h]
  split
  · exact takeStep_ne_refused _ _ r
  · exact takeStep_ne_refused _ _ r

/-! ### A step of a link -/

theorem linkStep_of_not_matched {l : Link} (h : ¬ l.matched = true) : linkStep l = .refused .mismatchedLink :=
  if_neg h

theorem Link.act_ne_refused (l : Link) (ep : EndpointName) (a : Action) (after : Link → Link) (r : Refusal) :
    l.act ep a after ≠ .refused r := by
  unfold Link.act
  cases h : takeStep a (l.get ep) with
  | next s => simp
  | fault f => simp
  | refused q => exact absurd h (takeStep_ne_refused a (l.get ep) q)

theorem Link.lineTick_ne_refused (l : Link) (ep : EndpointName) (after : Link → Link) (r : Refusal) :
    l.lineTick ep after ≠ .refused r :=
  Link.act_ne_refused l ep _ after r

theorem Link.beginTick_ne_refused (l : Link) (program : List Stmt) (r : Refusal) :
    l.beginTick program ≠ .refused r :=
  Link.lineTick_ne_refused _ .a _ r

theorem Link.presentOnA_ne_refused (l : Link) (txn : BusTxn) (name : Option Nat) (rest : List Stmt) (r : Refusal) :
    l.presentOnA txn name rest ≠ .refused r := by
  unfold Link.presentOnA
  split
  · exact Link.beginTick_ne_refused l _ r
  · exact Link.act_ne_refused _ .a _ id r

theorem Link.awaitOnA_ne_refused (l : Link) (before : Nat) (name : Option Nat) (rest : List Stmt) (r : Refusal) :
    l.awaitOnA before name rest ≠ .refused r := by
  unfold Link.awaitOnA
  split
  · exact Link.beginTick_ne_refused l _ r
  · simp
  · simp

theorem Link.runStatement_ne_refused (l : Link) (r : Refusal) : l.runStatement ≠ .refused r := by
  unfold Link.runStatement
  cases l.program with
  | nil => exact Link.beginTick_ne_refused l _ r
  | cons stmt rest =>
    cases stmt with
    | wr addr data be => exact Link.presentOnA_ne_refused l _ _ _ r
    | rd addr be name => exact Link.presentOnA_ne_refused l _ _ _ r
    | wait before name => exact Link.awaitOnA_ne_refused l _ _ _ r
    | csrw ep off val => exact Link.act_ne_refused _ ep _ _ r
    | csrr ep off name => exact Link.act_ne_refused _ ep _ _ r
    | ticks n =>
      cases n with
      | zero => simp
      | succ n => exact Link.beginTick_ne_refused l _ r
    | untilState ep st =>
      dsimp only
      split
      · simp
      · exact Link.beginTick_ne_refused l _ r
    | flip ep n mask => simp

theorem Link.eagerStep_ne_refused (l passed : Link) (r : Refusal) : l.eagerStep passed ≠ .refused r := by
  unfold Link.eagerStep
  split
  · exact Link.act_ne_refused l .a _ id r
  · exact Link.act_ne_refused l .b _ id r
  · simp

theorem Link.runBusStep_ne_refused (l : Link) (r : Refusal) : l.runBusStep ≠ .refused r := by
  unfold Link.runBusStep
  cases l.schedule with
  | nil => exact Link.eagerStep_ne_refused l l r
  | cons move rest =>
    cases move with
    | bus ep a =>
      dsimp only
      split
      · exact Link.act_ne_refused _ ep a id r
      · simp
    | transport ep phyReady rxIdle => simp
    | endPass => simp
    | eagerPass => exact Link.eagerStep_ne_refused _ _ r

theorem linkStep_ne_refused_of_matched {l : Link} (h : l.matched = true) (r : Refusal) : linkStep l ≠ .refused r := by
  unfold linkStep
  rw [if_pos h]
  cases l.phase with
  | busSteps => exact Link.runBusStep_ne_refused l r
  | between => exact Link.runStatement_ne_refused l r
  | secondTick => exact Link.lineTick_ne_refused l .b _ r

/-! ### The statement -/

/-- Settles O60: the refusals are the guards of `step` and `linkStep`, and past them every operation ends in a next state
or a fault. -/
theorem illegalBuildsRefused : Obligations.IllegalBuildsRefused := by
  unfold Obligations.IllegalBuildsRefused
  refine ⟨fun p => ?ranges, fun _ => rfl, fun _ => step_of_illegal, fun _ r h => step_ne_refused_of_legal h r,
    fun l h => linkStep_of_not_matched fun hm => ?roles, fun l h => linkStep_of_not_matched fun hm => ?sameRole,
    fun l h => linkStep_of_not_matched fun hm => ?seeds, fun l h => linkStep_of_not_matched fun hm => ?builds,
    fun l r legalA legalB roleA roleB seed =>
      linkStep_ne_refused_of_matched (l.matched_iff.mpr ⟨legalA, legalB, roleA, roleB, seed⟩) r⟩
  case ranges =>
    rw [Params.legal_iff]
    constructor
    · rintro ⟨lanes, dwell, lock, align, slip, confirm, err, txq, rxq⟩
      exact ⟨lanes, dwell, lock, align, slip, confirm, err, txq, rxq, p.scrSeed.isLt, p.linkDownReadValue.isLt,
        words_fit_lanes lanes⟩
    · rintro ⟨lanes, dwell, lock, align, slip, confirm, err, txq, rxq, -⟩
      exact ⟨lanes, dwell, lock, align, slip, confirm, err, txq, rxq⟩
  all_goals obtain ⟨legalA, legalB, roleA, roleB, seed⟩ := l.matched_iff.mp hm
  case roles => exact h.elim (· roleA) (· roleB)
  case sameRole => simp [roleA, roleB] at h
  case seeds => exact h seed
  case builds => simp [legalA, legalB] at h

end Sys2Proof.Machine
end

section
/-! What every step keeps (10_state.md R30 to R45; 60_exceptions.md R301): the ranges of the line-domain counters, the
capacities of the buffers, a cause that is no reserved code and the memory's canonical form. One inversion lemma says
what each action of the schedule leaves; each part of `Bounds` is then followed through the operations by itself. -/

namespace Sys2Proof.Machine

/-! ### What each action leaves -/

/-- An action that goes on leaves what its operation leaves: `perform_eq` with the outcomes taken apart, and with no
instruction or register left to look up. -/
theorem perform_next {a : Action} {s t : State} : perform a s = .next t →
    match a with
    | .rst => t = powerUpReset s
    | .tick raw phy idle =>
      t = receiveWord (fetchedWord (sampleInputs raw phy idle s)) (sampleInputs raw phy idle s)
    | .packetizer => t = packetizerStep s
    | .accept => t = s ∨ ∃ txn, t = acceptWrite txn s ∨ t = acceptRead txn s
    | .depacketizer => t = depacketizerStep s
    | .receive => t = s ∨ ∃ m, s.bus.held = some m ∧ t = tunnelReceive m s
    | .busDone v => t = completerBusDone v s
    | .hostRead _ => ∃ v, t = s.putPorts { s.ports with hostValue := v }
    | .hostWrite _ _ => ∃ r : Regs, t = s.putRegs r ∧ r.cause.toNat ≤ s.regs.cause.toNat
    | .present txn => t = presentTxn txn s
    | .group g => t = receiveGroup g s
    | .encode _ _ => ∃ rd p, t = (s.putLine { s.line with encRd := rd }).putPorts p
    | .otherMaster addr be data => t = s.putMem (memWrite s.mem addr be data) := by
  intro h
  rw [perform_eq] at h
  cases a with
  | accept =>
    cases hacc : acceptable s with
    | none => simp_all
    | some txn =>
      refine .inr ⟨txn, ?_⟩
      cases hwe : txn.we <;> simp_all
  | receive =>
    cases htake : takeable s with
    | none => simp_all
    | some m =>
      have held : s.bus.held = some m := by
        unfold takeable at htake
        repeat' split at htake
        all_goals simp_all
      exact .inr ⟨m, held, by simp_all⟩
  | hostRead off =>
    obtain ⟨f, hf, -⟩ | ⟨v, hv⟩ := exec_decodeRead off s
    · cases hf.symm.trans h
    · cases hv.symm.trans h
      exact ⟨v, rfl⟩
  | hostWrite off val =>
    obtain ⟨r, hw, hc⟩ := exec_decodeWrite off val s
    cases hw.symm.trans h
    exact ⟨r, rfl, hc⟩
  | encode k v =>
    dsimp only [encodeStep] at h
    split at h
    · cases h
      exact ⟨_, _, rfl⟩
    · cases h
  | _ => cases h; rfl

/-- What an action off the line keeps: the build, and the line domain but for the running disparities that a single
`Encode` and `Decode` move. It writes no cause code above the one that stands. -/
structure OffLine (s t : State) : Prop where
  cfg : t.cfg = s.cfg
  line : ∃ enc dec, t.line = { s.line with encRd := enc, decRd := dec }
  cause : t.regs.cause.toNat ≤ s.regs.cause.toNat

theorem OffLine.of_same {s t : State} (cfg : t.cfg = s.cfg) (line : t.line = s.line)
    (cause : t.regs.cause = s.regs.cause) : OffLine s t :=
  ⟨cfg, ⟨_, _, line⟩, cause ▸ le_rfl⟩

/-- Every action but a line tick and the power-up reset is off the line. -/
theorem perform_offLine {a : Action} {s t : State} (hrst : a ≠ .rst) (htick : ∀ raw phy idle, a ≠ .tick raw phy idle)
    (h : perform a s = .next t) : OffLine s t := by
  have left := perform_next h
  cases a with
  | rst => exact absurd rfl hrst
  | tick raw phy idle => exact absurd rfl (htick raw phy idle)
  | packetizer =>
    have k := left.trans (packetizerStep_keeps s)
    exact .of_same (by rw [k]) (by rw [k]) (by rw [k])
  | accept => obtain rfl | ⟨txn, rfl | rfl⟩ := left <;> exact .of_same rfl rfl rfl
  | depacketizer =>
    obtain rfl := left
    unfold depacketizerStep
    split
    · rename_i e _ _ _
      have k := takeEntry_keeps e (dequeueRx s)
      exact .of_same (by rw [k]; rfl) (by rw [k]; rfl) (by rw [k]; rfl)
    · exact .of_same rfl rfl rfl
  | receive =>
    obtain rfl | ⟨m, -, ht⟩ := left
    · exact .of_same rfl rfl rfl
    · have k := ht.trans (tunnelReceive_keeps m s)
      exact .of_same (by rw [k]) (by rw [k]) (by rw [k])
  | busDone v =>
    have k := left.trans (completerBusDone_keeps v s)
    exact .of_same (by rw [k]) (by rw [k]) (by rw [k])
  | hostRead off =>
    obtain ⟨v, rfl⟩ := left
    exact .of_same rfl rfl rfl
  | hostWrite off val =>
    obtain ⟨r, rfl, cause⟩ := left
    exact ⟨rfl, ⟨_, _, rfl⟩, cause⟩
  | present txn =>
    have k := left.trans (presentTxn_eq txn s)
    exact .of_same (by rw [k]) (by rw [k]) (by rw [k])
  | group g =>
    obtain rfl := left
    exact ⟨rfl, ⟨_, _, rfl⟩, le_rfl⟩
  | encode k v =>
    obtain ⟨rd, p, rfl⟩ := left
    exact ⟨rfl, ⟨_, _, rfl⟩, le_rfl⟩
  | otherMaster addr be data =>
    obtain rfl := left
    exact .of_same rfl rfl rfl

/-! ### The ranges of the trainer's counters (42_linktrainer.md R161 to R169) -/

/-- The part of `LineBounds` that holds of the two counters in every link state. -/
structure CountersInRange (cfg : Params) (l : Line) : Prop where
  timer : l.timer.toNat ≤ max cfg.txDwell (max cfg.alignTimeout cfg.confirmWindow)
  errCount : l.errCount.toNat ≤ cfg.errThreshold

/-- The part of `LineBounds` that the trainer's counters keep with the link state `st`. -/
structure CountersFit (cfg : Params) (st : LinkState) (l : Line) : Prop where
  range : CountersInRange cfg l
  timed : ∀ n, timeLimit cfg st = some n → l.timer.toNat < n
  tolerated : st = .ready → l.errCount.toNat < cfg.errThreshold

theorem LineBounds.counters {cfg : Params} {l : Line} (h : LineBounds cfg l) : CountersFit cfg l.linkState l :=
  ⟨⟨h.timer, h.errCount⟩, h.timed, h.tolerated⟩

/-- What a trainer rule must give for the line domain to be in its ranges at the end of the tick. -/
structure TrainedFits (cfg : Params) (r : Trained) : Prop where
  counters : CountersFit cfg r.1 r.2.line
  locked : r.1 = .aligned ∨ r.1 = .ready → r.2.line.lock = true
  cause : r.2.regs.cause.toNat < 8

/-- Every time limit of a legal build is a positive number of 32 bits within the timer's range (00_scope.md R7). -/
theorem timeLimit_range {cfg : Params} (legal : cfg.legal = true) {st : LinkState} {n : Nat}
    (h : timeLimit cfg st = some n) :
    0 < n ∧ n < 2 ^ 32 ∧ n ≤ max cfg.txDwell (max cfg.alignTimeout cfg.confirmWindow) := by
  obtain ⟨-, dwell, -, align, -, confirm, -⟩ := (Params.legal_iff _).mp legal
  cases st <;> cases h <;> omega

theorem FallBack.code_lt (f : FallBack) : f.code.toNat < 8 := by
  cases f <;> decide

theorem FallBack.target_untimed (f : FallBack) : f.target = .reset ∨ f.target = .error := by
  cases f <;> simp [FallBack.target]

/-- RESET and ERROR use neither counter, and need no lock. -/
theorem TrainedFits.untimed {cfg : Params} {r : Trained} (hst : r.1 = .reset ∨ r.1 = .error)
    (range : CountersInRange cfg r.2.line) (cause : r.2.regs.cause.toNat < 8) : TrainedFits cfg r := by
  obtain ⟨st, u⟩ := r
  obtain rfl | rfl := hst <;> exact ⟨⟨range, by simp [timeLimit], by simp⟩, by simp, cause⟩

theorem fallTo_fits (f : FallBack) {s : State} (range : CountersInRange s.cfg s.line) :
    TrainedFits s.cfg (fallTo f s) :=
  .untimed f.target_untimed range f.code_lt

theorem enter_fits {next : LinkState} {s : State} (legal : s.cfg.legal = true) (range : CountersInRange s.cfg s.line)
    (cause : s.regs.cause.toNat < 8) (notReady : next ≠ .ready) (locked : next = .aligned → s.line.lock = true) :
    TrainedFits s.cfg (enter next s) where
  counters := ⟨⟨Nat.zero_le _, range.errCount⟩, fun _ h => (timeLimit_range legal h).1, fun h => absurd h notReady⟩
  locked h := locked (h.resolve_right notReady)
  cause := cause

theorem stay_fits {st : LinkState} {n : Nat} {s : State} (legal : s.cfg.legal = true)
    (range : CountersInRange s.cfg s.line) (cause : s.regs.cause.toNat < 8) (limit : timeLimit s.cfg st = some n)
    (early : ¬ limitReached n s.line = true) (locked : st = .aligned → s.line.lock = true) :
    TrainedFits s.cfg (stay st s) := by
  obtain ⟨-, small, within⟩ := timeLimit_range legal limit
  have notReady : st ≠ .ready := by rintro rfl; cases limit
  have before : s.line.timer.toNat + 1 < n := by simpa [limitReached] using early
  have counted : (stay st s).2.line.timer.toNat = s.line.timer.toNat + 1 := by
    simp only [stay, State.putLine_line, BitVec.ofNat_eq_ofNat, BitVec.toNat_add, BitVec.toNat_ofNat]
    omega
  refine ⟨⟨⟨by omega, range.errCount⟩, fun m hm => ?_, fun h => absurd h notReady⟩,
    fun h => locked (h.resolve_right notReady), cause⟩
  cases limit.symm.trans hm
  omega

theorem trainSendTraining_fits {s : State} (legal : s.cfg.legal = true) (range : CountersInRange s.cfg s.line)
    (cause : s.regs.cause.toNat < 8) : TrainedFits s.cfg (trainSendTraining s) := by
  unfold trainSendTraining
  split
  · exact fallTo_fits _ range
  · split
    · exact enter_fits legal range cause (by decide) (by simp)
    · exact stay_fits legal range cause rfl ‹_› (by simp)

theorem trainWaitAlign_fits {s : State} (legal : s.cfg.legal = true) (range : CountersInRange s.cfg s.line)
    (cause : s.regs.cause.toNat < 8) : TrainedFits s.cfg (trainWaitAlign s) := by
  unfold trainWaitAlign
  split
  · exact enter_fits legal range cause (by decide) (fun _ => ‹_›)
  · split
    · exact fallTo_fits _ range
    · split
      · exact fallTo_fits _ range
      · exact stay_fits legal range cause rfl ‹_› (by simp)

theorem trainAligned_fits {cls : WordClass} {s : State} (legal : s.cfg.legal = true)
    (range : CountersInRange s.cfg s.line) (cause : s.regs.cause.toNat < 8) :
    TrainedFits s.cfg (trainAligned cls s) := by
  unfold trainAligned
  split
  · exact fallTo_fits _ range
  · rename_i lost
    have locked : s.line.lock = true := by simpa using lost
    split
    · exact fallTo_fits _ range
    · split
      · obtain ⟨-, -, -, -, -, -, ⟨threshold, -⟩, -⟩ := (Params.legal_iff _).mp legal
        exact ⟨⟨⟨Nat.zero_le _, Nat.zero_le _⟩, by simp [timeLimit], fun _ => threshold⟩, fun _ => locked, cause⟩
      · exact stay_fits legal range cause rfl ‹_› fun _ => locked

theorem trainReady_fits {cls : WordClass} {s : State} (legal : s.cfg.legal = true)
    (counters : CountersFit s.cfg .ready s.line) (cause : s.regs.cause.toNat < 8) :
    TrainedFits s.cfg (trainReady cls s) := by
  obtain ⟨-, -, -, -, -, -, ⟨-, small⟩, -⟩ := (Params.legal_iff _).mp legal
  have tolerated := counters.tolerated rfl
  have counted : nextErrCount cls s.line ≤ s.cfg.errThreshold := by
    unfold nextErrCount
    split <;> omega
  have stored : (BitVec.ofNat 16 (nextErrCount cls s.line)).toNat = nextErrCount cls s.line :=
    Nat.mod_eq_of_lt (by omega)
  unfold trainReady
  split
  · exact fallTo_fits _ counters.range
  · rename_i lost
    have locked : s.line.lock = true := by simpa using lost
    have range : CountersInRange s.cfg { s.line with errCount := BitVec.ofNat 16 (nextErrCount cls s.line) } :=
      ⟨counters.range.timer, stored.trans_le counted⟩
    split
    · exact .untimed (.inl rfl) range (FallBack.code_lt .errThreshold)
    · exact ⟨⟨range, by simp [timeLimit], fun _ => stored.trans_lt (by omega)⟩, fun _ => locked, cause⟩

/-- The trainer keeps its counters within the ranges of the state it goes to, goes to ALIGNED and READY with lock only,
and writes no reserved cause code. -/
theorem trainStep_fits {st : LinkState} {cls : WordClass} {s : State} (legal : s.cfg.legal = true)
    (counters : CountersFit s.cfg st s.line) (cause : s.regs.cause.toNat < 8) :
    TrainedFits s.cfg (trainStep st cls s) := by
  unfold trainStep
  split
  · exact .untimed (.inl rfl) counters.range (FallBack.code_lt .hostReset)
  · split
    · exact fallTo_fits _ counters.range
    · cases st with
      | reset => exact .untimed (.inl rfl) counters.range cause
      | sendTraining => exact trainSendTraining_fits legal counters.range cause
      | waitAlign => exact trainWaitAlign_fits legal counters.range cause
      | aligned => exact trainAligned_fits legal counters.range cause
      | ready => exact trainReady_fits legal counters cause
      | error => exact .untimed (.inr rfl) counters.range cause

/-! ### The ranges of the aligner's counters (41_bitaligner.md R144, R145) -/

/-- The part of `LineBounds` that the aligner keeps. -/
structure AlignerInRange (cfg : Params) (l : Line) : Prop where
  commaRun : l.commaRun.toNat ≤ cfg.lockCount
  unlocked : l.lock = false → l.commaRun.toNat < cfg.lockCount
  driftRun : l.driftRun.toNat < cfg.lockCount
  slipCount : l.slipCount.toNat ≤ cfg.slipLimit

theorem LineBounds.aligner {cfg : Params} {l : Line} (h : LineBounds cfg l) : AlignerInRange cfg l :=
  ⟨h.commaRun, h.unlocked, h.driftRun, h.slipCount⟩

theorem huntComma_inRange {cfg : Params} {l : Line} (legal : cfg.legal = true) (h : AlignerInRange cfg l)
    (unlocked : l.lock = false) : AlignerInRange cfg (huntComma cfg l) := by
  obtain ⟨-, -, ⟨-, small⟩, -⟩ := (Params.legal_iff _).mp legal
  have room := h.unlocked unlocked
  have counted : (huntComma cfg l).commaRun.toNat = l.commaRun.toNat + 1 := Nat.mod_eq_of_lt (by omega)
  exact ⟨by omega, fun hl => by rw [counted]; simpa [huntComma] using hl, h.driftRun, h.slipCount⟩

theorem huntSlip_inRange {cfg : Params} {l : Line} (legal : cfg.legal = true) (h : AlignerInRange cfg l) :
    AlignerInRange cfg (huntSlip cfg l) := by
  obtain ⟨-, -, ⟨positive, -⟩, -, ⟨-, small⟩, -⟩ := (Params.legal_iff _).mp legal
  have counted : (huntSlip cfg l).slipCount.toNat = min (l.slipCount.toNat + 1) cfg.slipLimit :=
    Nat.mod_eq_of_lt (by omega)
  have emptied : (huntSlip cfg l).commaRun.toNat = 0 := rfl
  exact ⟨by omega, fun _ => by omega, h.driftRun, by omega⟩

theorem driftCheck_inRange {cfg : Params} {comma elsewhere : Bool} {l : Line} (legal : cfg.legal = true)
    (h : AlignerInRange cfg l) : AlignerInRange cfg (driftCheck cfg comma elsewhere l) := by
  obtain ⟨-, -, ⟨positive, small⟩, -⟩ := (Params.legal_iff _).mp legal
  have zero : (0#16).toNat < cfg.lockCount := by simp; omega
  unfold driftCheck
  split
  · exact ⟨h.commaRun, h.unlocked, zero, h.slipCount⟩
  · split
    · split
      · exact ⟨zero.le, fun _ => zero, zero, h.slipCount⟩
      · have counted : (BitVec.ofNat 16 (l.driftRun.toNat + 1)).toNat = l.driftRun.toNat + 1 :=
          Nat.mod_eq_of_lt (by omega)
        exact ⟨h.commaRun, h.unlocked, counted.trans_lt (by omega), h.slipCount⟩
    · exact h

theorem alignStep_inRange {cfg : Params} {st : LinkState} {comma elsewhere : Bool} {l : Line}
    (legal : cfg.legal = true) (h : AlignerInRange cfg l) : AlignerInRange cfg (alignStep cfg st comma elsewhere l) := by
  unfold alignStep
  split
  · rename_i hunts
    have unlocked : l.lock = false := by
      unfold hunting at hunts
      simp_all
    split
    · exact huntComma_inRange legal h unlocked
    · exact huntSlip_inRange legal h
  · split
    · exact driftCheck_inRange legal h
    · exact h

/-! ### The line domain -/

/-- The bounds say nothing of the running disparities and the last raw word. -/
theorem LineBounds.of_unbounded {cfg : Params} {l : Line} (h : LineBounds cfg l) (enc dec : RD) (prev : LineWord) :
    LineBounds cfg { l with encRd := enc, decRd := dec, rxPrev := prev } :=
  ⟨h.timer, h.timed, h.errCount, h.tolerated, h.commaRun, h.unlocked, h.driftRun, h.slipCount, h.locked⟩

/-- An untrained line: counters at zero, no lock, in RESET or on the way out of it. -/
theorem lineBounds_of_reset {cfg : Params} (legal : cfg.legal = true) {st : LinkState}
    (hst : st = .reset ∨ st = .sendTraining) (enc : RD) (prev : LineWord) :
    LineBounds cfg { Line.reset cfg with linkState := st, encRd := enc, rxPrev := prev } := by
  obtain ⟨-, -, ⟨positive, -⟩, -⟩ := (Params.legal_iff _).mp legal
  have zero : (0#16).toNat < cfg.lockCount := by simp; omega
  refine ⟨Nat.zero_le _, fun _ h => (timeLimit_range legal h).1, Nat.zero_le _, ?_, zero.le, fun _ => zero, zero,
    Nat.zero_le _, ?_⟩
  · obtain rfl | rfl := hst <;> simp
  · obtain rfl | rfl := hst <;> simp

/-- The aligner leaves the trainer's counters alone. -/
theorem CountersFit.alignStep {cfg : Params} {st : LinkState} {comma elsewhere : Bool} {l : Line}
    (h : CountersFit cfg st l) : CountersFit cfg st (alignStep cfg st comma elsewhere l) := by
  obtain ⟨-, timer, errCount, -⟩ := alignStep_keeps cfg st comma elsewhere l
  exact ⟨⟨timer ▸ h.range.timer, errCount ▸ h.range.errCount⟩, timer ▸ h.timed, errCount ▸ h.tolerated⟩

/-- A line tick outside RESET leaves the line domain in its ranges, and no reserved cause code. -/
theorem receiveIn_lineBounds {w : LineWord} {s : State} (legal : s.cfg.legal = true) (h : LineBounds s.cfg s.line)
    (hc : s.regs.cause.toNat < 8) :
    LineBounds s.cfg (receiveIn s.line.linkState w s).line ∧
      (receiveIn s.line.linkState w s).regs.cause.toNat < 8 := by
  obtain ⟨state, timer, errCount, cause, -, lock, slipCount, -, commaRun, driftRun, -⟩ :=
    receiveIn_parts s.line.linkState w s
  have aligner := alignStep_inRange (st := s.line.linkState) (comma := isComma w)
    (elsewhere := commaElsewhere s.rx.window s.line.alignOffset) legal h.aligner
  generalize hl : alignStep s.cfg s.line.linkState (isComma w) (commaElsewhere s.rx.window s.line.alignOffset) s.line = l
    at *
  have counters : CountersFit s.cfg s.line.linkState l := hl ▸ h.counters.alignStep
  have trained := trainStep_fits (cls := classHere w s) (s := s.putLine l) legal counters hc
  have kept : (trainStep s.line.linkState (classHere w s) (s.putLine l)).2.line.lock = l.lock :=
    congrArg (·.line.lock) (trainStep_keeps s.line.linkState (classHere w s) (s.putLine l))
  refine ⟨⟨?_, ?_, ?_, ?_, ?_, ?_, ?_, ?_, ?_⟩, cause ▸ trained.cause⟩
  · exact timer ▸ trained.counters.range.timer
  · exact state ▸ timer ▸ trained.counters.timed
  · exact errCount ▸ trained.counters.range.errCount
  · exact state ▸ errCount ▸ trained.counters.tolerated
  · exact commaRun ▸ aligner.commaRun
  · exact lock ▸ commaRun ▸ aligner.unlocked
  · exact driftRun ▸ aligner.driftRun
  · exact slipCount ▸ aligner.slipCount
  · rw [state, lock, ← kept]
    exact trained.locked

/-- A RESET tick leaves an untrained line. -/
theorem resetTick_lineBounds {s : State} (legal : s.cfg.legal = true) : LineBounds s.cfg (resetTick s).line := by
  rw [resetTick_eq]
  apply lineBounds_of_reset legal
  split <;> simp

/-- A line tick leaves the line domain in its ranges, and no reserved cause code. -/
theorem receiveWord_lineBounds {w : LineWord} {s : State} (legal : s.cfg.legal = true) (h : LineBounds s.cfg s.line)
    (cause : s.regs.cause.toNat < 8) :
    LineBounds s.cfg (receiveWord w s).line ∧ (receiveWord w s).regs.cause.toNat < 8 := by
  unfold receiveWord
  split
  · exact ⟨resetTick_lineBounds legal, by rw [resetTick_eq]; exact cause⟩
  · exact receiveIn_lineBounds legal h cause

theorem receiveWord_cfg (w : LineWord) (s : State) : (receiveWord w s).cfg = s.cfg := by
  unfold receiveWord
  split
  · rw [resetTick_eq]
  · rw [receiveIn_eq]

/-- No action changes the build. -/
theorem perform_cfg {a : Action} {s t : State} (h : perform a s = .next t) : t.cfg = s.cfg := by
  by_cases hrst : a = .rst
  · subst hrst
    have left : t = powerUpReset s := perform_next h
    rw [left]
    rfl
  · by_cases htick : ∃ raw phy idle, a = .tick raw phy idle
    · obtain ⟨raw, phy, idle, rfl⟩ := htick
      rw [perform_next h, receiveWord_cfg]
      rfl
    · exact (perform_offLine hrst (fun raw phy idle ha => htick ⟨raw, phy, idle, ha⟩) h).cfg

/-- Every action keeps the ranges of the line domain, and writes no reserved cause code. -/
theorem perform_lineBounds {a : Action} {s t : State} (legal : s.cfg.legal = true) (h : LineBounds s.cfg s.line)
    (cause : s.regs.cause.toNat < 8) (hp : perform a s = .next t) :
    LineBounds s.cfg t.line ∧ t.regs.cause.toNat < 8 := by
  by_cases hrst : a = .rst
  · subst hrst
    rw [perform_next hp]
    exact ⟨lineBounds_of_reset legal (.inl rfl) .neg 0, Nat.zero_lt_succ 7⟩
  · by_cases htick : ∃ raw phy idle, a = .tick raw phy idle
    · obtain ⟨raw, phy, idle, rfl⟩ := htick
      rw [perform_next hp]
      exact receiveWord_lineBounds (s := sampleInputs raw phy idle s) legal
        (h.of_unbounded s.line.encRd s.line.decRd raw) cause
    · obtain ⟨-, ⟨enc, dec, line⟩, noHigher⟩ :=
        perform_offLine hrst (fun raw phy idle ha => htick ⟨raw, phy, idle, ha⟩) hp
      rw [line]
      exact ⟨h.of_unbounded enc dec s.line.rxPrev, noHigher.trans_lt cause⟩

/-! ### The buffers (10_state.md R42 to R46; 44_framer.md R213 to R218) -/

/-- `BufferBounds` reads the build, the bridge, the bus domain and the lanes. -/
theorem BufferBounds.congr {s t : State} (h : BufferBounds s) (cfg : t.cfg = s.cfg) (bridge : t.bridge = s.bridge)
    (bus : t.bus = s.bus) (lanes : t.rx.lanes = s.rx.lanes) : BufferBounds t where
  txq := by rw [bridge, cfg]; exact h.txq
  rxq := by rw [bridge, cfg]; exact h.rxq
  pktWords := by rw [bus]; exact h.pktWords
  depBuf := by rw [bus]; exact h.depBuf
  hunting := by rw [bus]; exact h.hunting
  held := by rw [bus]; exact h.held
  lanes := by rw [lanes]; exact h.lanes

/-- Empty queues and an idle bus domain, whatever `comp_op` is. -/
theorem bufferBounds_of_reset {s : State} {op : CompOp} (bridge : s.bridge = Bridge.reset)
    (bus : s.bus = { Bus.reset with compOp := op }) (lanes : s.rx.lanes.length ≤ 4) : BufferBounds s where
  txq := by rw [bridge]; exact Nat.zero_le _
  rxq := by rw [bridge]; exact Nat.zero_le _
  pktWords := by rw [bus]; exact Nat.zero_le _
  depBuf := by rw [bus]; exact Nat.zero_le _
  hunting := by rw [bus]; exact fun _ => rfl
  held := by rw [bus]; exact fun _ h => nomatch h
  lanes := lanes

theorem decodeWord_length (w : LineWord) (rd : RD) : (decodeWord w rd).1.length = 4 := rfl

/-- A line tick takes at most one entry from `txq`, puts no entry in a full `rxq`, and receives four lanes. -/
theorem receiveWord_bufferBounds {w : LineWord} {s : State} (h : BufferBounds s) : BufferBounds (receiveWord w s) := by
  unfold receiveWord
  split
  · rw [resetTick_eq]
    exact bufferBounds_of_reset rfl rfl h.lanes
  · rw [receiveIn_eq]
    refine ⟨?txq, ?rxq, h.pktWords, h.depBuf, h.hunting, h.held, (decodeWord_length _ _).le⟩
    case txq =>
      have txq := h.txq
      obtain same | fewer := transmit_txq s.line.linkState s
      · simpa [same] using txq
      · simpa [fewer] using by omega
    case rxq =>
      dsimp only
      split
      · exact receiveDelivery_room h.rxq
      · exact h.rxq

theorem packetizerStep_of_disabled {s : State} (h : s.bus.pktWords = [] ∨ ¬ s.bridge.txq.length < s.cfg.txqDepth) :
    packetizerStep s = s := by
  unfold packetizerStep txqRoom
  obtain h | h := h
  · rw [h]
    simp
  · simp [h]

theorem packetizerStep_bufferBounds {s : State} (h : BufferBounds s) : BufferBounds (packetizerStep s) := by
  cases words : s.bus.pktWords with
  | nil => rwa [packetizerStep_of_disabled (.inl words)]
  | cons e rest =>
    by_cases room : s.bridge.txq.length < s.cfg.txqDepth
    · obtain ⟨txq, pktWords, rxq⟩ := packetizerStep_queues words room
      have short := h.pktWords
      rw [packetizerStep_keeps]
      refine ⟨?_, h.rxq, ?_, h.depBuf, h.hunting, h.held, h.lanes⟩
      · simpa [txq] using room
      · simp only [words, List.length_cons] at short
        simpa [pktWords] using by omega
    · rwa [packetizerStep_of_disabled (.inr room)]

/-- A message that the Depacketizer delivers has a legal TYPE (44_framer.md R217). -/
theorem headerType_of_legalHeader {hdr : Word} (h : legalHeader hdr = true) :
    headerType hdr = typeWrite ∨ headerType hdr = typeRead ∨ headerType hdr = typeResponse := by
  unfold legalHeader at h
  simp only [Bool.and_eq_true, Bool.or_eq_true, beq_iff_eq, or_assoc] at h
  exact h.1

/-- The Depacketizer in a state of its own, with a buffer that fits it. -/
theorem setFrame_bufferBounds {st : DepState} {buf : List Word} {s : State} (h : BufferBounds s)
    (short : buf.length ≤ 3) (hunting : st = .hunt → buf = []) : BufferBounds (setFrame st buf s) :=
  ⟨h.txq, h.rxq, h.pktWords, short, hunting, h.held, h.lanes⟩

theorem dropFrame_bufferBounds {s : State} (h : BufferBounds s) : BufferBounds (dropFrame s) :=
  h.congr rfl rfl rfl rfl

theorem discardFrame_bufferBounds {s : State} (h : BufferBounds s) : BufferBounds (discardFrame s) :=
  dropFrame_bufferBounds (setFrame_bufferBounds h (Nat.zero_le _) fun _ => rfl)

theorem endFrame_bufferBounds {hdr addr data w : Word} {s : State} (h : BufferBounds s) :
    BufferBounds (endFrame hdr addr data w s) := by
  unfold endFrame
  split
  · rename_i ok
    have legal : legalHeader hdr = true := by
      unfold frameOk at ok
      simp_all
    refine ⟨h.txq, h.rxq, h.pktWords, Nat.zero_le _, fun _ => rfl, fun m hm => ?_, h.lanes⟩
    cases hm
    exact headerType_of_legalHeader legal
  · exact discardFrame_bufferBounds h

theorem collectWord_bufferBounds {w : Word} {s : State} (h : BufferBounds s) : BufferBounds (collectWord w s) := by
  unfold collectWord
  split
  · exact endFrame_bufferBounds h
  · rename_i notThree
    have short := h.depBuf
    have fewer : s.bus.depBuf.length ≠ 3 := fun three => by
      obtain ⟨hdr, addr, data, whole⟩ := List.length_eq_three.mp three
      exact notThree hdr addr data whole
    exact setFrame_bufferBounds h (by simp; omega) (by simp)

theorem takeEntry_bufferBounds {e : RxEntry} {s : State} (h : BufferBounds s) : BufferBounds (takeEntry e s) := by
  unfold takeEntry
  split
  · exact setFrame_bufferBounds h (Nat.zero_le _) fun _ => rfl
  · exact h
  · exact h
  · exact dropFrame_bufferBounds (setFrame_bufferBounds h (Nat.zero_le _) fun _ => rfl)
  · exact discardFrame_bufferBounds h
  · exact collectWord_bufferBounds h

theorem dequeueRx_bufferBounds {s : State} (h : BufferBounds s) : BufferBounds (dequeueRx s) := by
  have rxq := h.rxq
  refine ⟨h.txq, ?_, h.pktWords, h.depBuf, h.hunting, h.held, h.lanes⟩
  simpa [dequeueRx] using by omega

theorem depacketizerStep_bufferBounds {s : State} (h : BufferBounds s) : BufferBounds (depacketizerStep s) := by
  unfold depacketizerStep
  split
  · exact takeEntry_bufferBounds (dequeueRx_bufferBounds h)
  · exact h

theorem buildFrame_length (mtype : Byte) (be : ByteEnable) (addr data : Word) :
    (buildFrame mtype be addr data).length = 5 := rfl

/-- Putting a new frame in `pkt_words`, as an accepted transaction and a response do. -/
theorem BufferBounds.of_frame {s t : State} {mtype : Byte} {be : ByteEnable} {addr data : Word} (h : BufferBounds s)
    (cfg : t.cfg = s.cfg) (bridge : t.bridge = s.bridge) (lanes : t.rx.lanes = s.rx.lanes)
    (pktWords : t.bus.pktWords = buildFrame mtype be addr data)
    (dep : t.bus.depState = s.bus.depState ∧ t.bus.depBuf = s.bus.depBuf ∧ t.bus.held = s.bus.held) :
    BufferBounds t where
  txq := by rw [bridge, cfg]; exact h.txq
  rxq := by rw [bridge, cfg]; exact h.rxq
  pktWords := by rw [pktWords]; exact (buildFrame_length _ _ _ _).le
  depBuf := by rw [dep.2.1]; exact h.depBuf
  hunting := by rw [dep.1, dep.2.1]; exact h.hunting
  held := by rw [dep.2.2]; exact h.held
  lanes := by rw [lanes]; exact h.lanes

theorem completerBusDone_bufferBounds {v : Option Word} {s : State} (h : BufferBounds s) :
    BufferBounds (completerBusDone v s) := by
  have words : (completerBusDone v s).bus.pktWords.length ≤ 5 := by
    unfold completerBusDone
    split
    · exact h.pktWords
    · unfold finishRead
      split
      · exact (buildFrame_length _ _ _ _).le
      · exact h.pktWords
    · exact h.pktWords
    · exact h.pktWords
  rw [completerBusDone_keeps]
  exact ⟨h.txq, h.rxq, words, h.depBuf, h.hunting, h.held, h.lanes⟩

/-- The tunnel takes the message it is offered or leaves it in `held`. -/
theorem tunnelReceive_held (m : Message) (s : State) :
    (tunnelReceive m s).bus.held = none ∨ (tunnelReceive m s).bus.held = some m := by
  unfold tunnelReceive requesterReceive completerReceive
  repeat' split
  all_goals simp [clearPending, finishRequest_eq, clearHeld, holdMsg, unmatched, issueCycle]

theorem tunnelReceive_bufferBounds {m : Message} {s : State} (h : BufferBounds s) (held : s.bus.held = some m) :
    BufferBounds (tunnelReceive m s) := by
  have left := tunnelReceive_held m s
  rw [tunnelReceive_keeps]
  refine ⟨h.txq, h.rxq, h.pktWords, h.depBuf, h.hunting, fun m' hm => ?_, h.lanes⟩
  dsimp only at hm
  obtain left | left := left <;> cases left.symm.trans hm
  exact h.held m held

/-- One `Decode` never leaves a fifth lane. -/
theorem receiveGroup_lanes (g : Group) (s : State) : (receiveGroup g s).rx.lanes.length ≤ 4 := by
  simp only [receiveGroup, State.putRx_rx, List.length_append, List.length_singleton]
  split
  · simp
  · omega

/-- Every action keeps the queues and the buffers within their capacities. -/
theorem perform_bufferBounds {a : Action} {s t : State} (h : BufferBounds s) (hp : perform a s = .next t) :
    BufferBounds t := by
  have left := perform_next hp
  cases a with
  | rst =>
    obtain rfl := left
    exact bufferBounds_of_reset rfl rfl (Nat.zero_le _)
  | tick raw phy idle =>
    obtain rfl := left
    exact receiveWord_bufferBounds (s := sampleInputs raw phy idle s) (h.congr rfl rfl rfl rfl)
  | packetizer =>
    obtain rfl := left
    exact packetizerStep_bufferBounds h
  | accept =>
    obtain rfl | ⟨txn, rfl | rfl⟩ := left
    · exact h
    · exact h.of_frame rfl rfl rfl rfl ⟨rfl, rfl, rfl⟩
    · exact h.of_frame rfl rfl rfl rfl ⟨rfl, rfl, rfl⟩
  | depacketizer =>
    obtain rfl := left
    exact depacketizerStep_bufferBounds h
  | receive =>
    obtain rfl | ⟨m, held, rfl⟩ := left
    · exact h
    · exact tunnelReceive_bufferBounds h held
  | busDone v =>
    obtain rfl := left
    exact completerBusDone_bufferBounds h
  | hostRead off =>
    obtain ⟨v, rfl⟩ := left
    exact h.congr rfl rfl rfl rfl
  | hostWrite off val =>
    obtain ⟨r, rfl, -⟩ := left
    exact h.congr rfl rfl rfl rfl
  | present txn =>
    obtain rfl := left
    rw [presentTxn_eq]
    exact h.congr rfl rfl rfl rfl
  | group g =>
    obtain rfl := left
    exact ⟨h.txq, h.rxq, h.pktWords, h.depBuf, h.hunting, h.held, receiveGroup_lanes g s⟩
  | encode k v =>
    obtain ⟨rd, p, rfl⟩ := left
    exact h.congr rfl rfl rfl rfl
  | otherMaster addr be data =>
    obtain rfl := left
    exact h.congr rfl rfl rfl rfl

/-! ### The memory -/

theorem depacketizerStep_mem (s : State) : (depacketizerStep s).mem = s.mem := by
  unfold depacketizerStep
  split
  · rw [takeEntry_keeps]
    rfl
  · rfl

theorem receiveWord_mem (w : LineWord) (s : State) : (receiveWord w s).mem = s.mem := by
  unfold receiveWord
  split
  · rw [resetTick_eq]
  · rw [receiveIn_eq]

/-- An action leaves the memory alone or is one `MemWrite` on it: the end of a write cycle, or another master's. -/
theorem perform_mem {a : Action} {s t : State} (hp : perform a s = .next t) :
    t.mem = s.mem ∨ ∃ addr be data, t.mem = memWrite s.mem addr be data := by
  have left := perform_next hp
  cases a with
  | busDone v =>
    obtain rfl := left
    rw [completerBusDone_mem]
    split
    · exact .inr ⟨_, _, _, rfl⟩
    · exact .inl rfl
  | otherMaster addr be data =>
    obtain rfl := left
    exact .inr ⟨addr, be, data, rfl⟩
  | rst => exact .inl (by rw [left]; rfl)
  | tick raw phy idle => exact .inl (by rw [left, receiveWord_mem]; rfl)
  | packetizer => exact .inl (by rw [left, packetizerStep_keeps])
  | accept => obtain rfl | ⟨txn, rfl | rfl⟩ := left <;> exact .inl rfl
  | depacketizer => exact .inl (by rw [left, depacketizerStep_mem])
  | receive =>
    obtain rfl | ⟨m, -, ht⟩ := left
    · exact .inl rfl
    · exact .inl (by rw [ht, tunnelReceive_keeps])
  | hostRead off =>
    obtain ⟨v, rfl⟩ := left
    exact .inl rfl
  | hostWrite off val =>
    obtain ⟨r, rfl, -⟩ := left
    exact .inl rfl
  | present txn => exact .inl (by rw [left, presentTxn_eq])
  | group g => exact .inl (by rw [left]; rfl)
  | encode k v =>
    obtain ⟨rd, p, rfl⟩ := left
    exact .inl rfl

theorem perform_wf_mem {a : Action} {s t : State} (h : Memory.wf s.mem = true) (hp : perform a s = .next t) :
    Memory.wf t.mem = true := by
  obtain same | ⟨addr, be, data, written⟩ := perform_mem hp
  · rwa [same]
  · rw [written]
    exact wf_memWrite h

/-! ### The statement -/

/-- Every action of a legal build keeps the bounds. -/
theorem perform_bounds {a : Action} {s t : State} (legal : s.cfg.legal = true) (h : Bounds s)
    (hp : perform a s = .next t) : Bounds t := by
  obtain ⟨line, cause⟩ := perform_lineBounds legal h.line h.cause hp
  exact ⟨(perform_cfg hp).symm ▸ line, perform_bufferBounds h.buffers hp, cause, perform_wf_mem h.memory hp⟩

/-- The schedule is no part of the bounds. -/
theorem Bounds.putAgenda {s : State} (h : Bounds s) (rest : List Action) : Bounds (s.putAgenda rest) :=
  ⟨h.line, h.buffers.congr rfl rfl rfl rfl, h.cause, h.memory⟩

/-- Settles O46: a step performs one action, and each action keeps each part of the bounds. -/
theorem boundsKept : Obligations.BoundsKept := by
  unfold Obligations.BoundsKept
  intro s t h hs
  obtain ⟨legal, -, ⟨-, eager⟩ | ⟨a, rest, -, named⟩⟩ := step_cases hs
  · exact ⟨perform_bounds legal h eager, perform_cfg eager⟩
  · exact ⟨perform_bounds (s := s.putAgenda rest) legal (h.putAgenda rest) named, perform_cfg (s := s.putAgenda rest) named⟩

end Sys2Proof.Machine
end

section
/-! What the link's host and its counters see: `link_state` moves in line ticks and the power-up reset only, a code
violation is counted once, and the registers of 10_state.md R51 to R56. -/

namespace Sys2Proof.Machine

/-! ### The link state (10_state.md R30) -/

/-- A bus step of the eager schedule is off the line (46_endpoint.md R270, R271). -/
theorem enabledBusStep_offLine {s : State} {a : Action} (h : enabledBusStep s = some a) :
    a ≠ .rst ∧ ∀ raw phy idle, a ≠ .tick raw phy idle := by
  unfold enabledBusStep at h
  repeat' split at h
  all_goals cases h
  all_goals exact ⟨nofun, nofun⟩

theorem perform_moves_linkState {a : Action} {s t : State} (hp : perform a s = .next t)
    (moved : t.line.linkState ≠ s.line.linkState) : a = .rst ∨ ∃ raw phy idle, a = .tick raw phy idle := by
  by_contra! other
  obtain ⟨enc, dec, line⟩ := (perform_offLine other.1 other.2 hp).line
  exact moved (by rw [line])

/-- Settles O51: every other action, the eager schedule's bus steps among them, is off the line. -/
theorem onlyTicksMoveLinkState : Obligations.OnlyTicksMoveLinkState := by
  unfold Obligations.OnlyTicksMoveLinkState
  intro s t hs moved
  obtain ⟨-, -, ⟨empty, eager⟩ | ⟨a, rest, named, hp⟩⟩ := step_cases hs
  · cases enabled : enabledBusStep s with
    | none => exact .inl ⟨empty, rfl⟩
    | some a =>
      have next : nextAction s = a := by simp [nextAction, enabled]
      obtain ⟨notRst, notTick⟩ := enabledBusStep_offLine enabled
      obtain isRst | ⟨raw, phy, idle, isTick⟩ := perform_moves_linkState (next ▸ eager) moved
      · exact absurd isRst notRst
      · exact absurd isTick (notTick raw phy idle)
  · simp only [named, List.head?_cons, Option.some.injEq]
    exact .inr (perform_moves_linkState (s := s.putAgenda rest) hp moved)

/-! ### The count of code violations (60_exceptions.md R300) -/

theorem exec_lineWord_outside_reset {i : Instr} {w : LineWord} {s : State} (h : lineWordOf i = some w)
    (outside : s.line.linkState ≠ .reset) : exec i s = .next (receiveIn s.line.linkState w s) := by
  rw [exec_lineWord h, receiveWord, if_neg outside]

theorem countViolation_count (st : LinkState) (cls : WordClass) (s : State) :
    (countViolation st cls s).regs.decodeErrorCount =
      if (st = .aligned ∨ st = .ready) ∧ cls = .err then s.regs.decodeErrorCount + 1
      else s.regs.decodeErrorCount := by
  unfold countViolation
  split <;> rfl

theorem receiveIn_decodeErrorCount (st : LinkState) (w : LineWord) (s : State) :
    (receiveIn st w s).regs.decodeErrorCount = (countViolation st (classHere w s) s).regs.decodeErrorCount := by
  rw [receiveIn_eq]

/-- Settles O25: a tick's only write of the count is `countViolation`, and its event is the tick's first. -/
theorem decodeErrorsCounted : Obligations.DecodeErrorsCounted := by
  unfold Obligations.DecodeErrorsCounted
  intro i w s hi outside
  refine ⟨_, exec_lineWord_outside_reset hi outside, ?_⟩
  have count := receiveIn_decodeErrorCount s.line.linkState w s
  rw [countViolation_count] at count
  split
  case isTrue violation =>
    rw [if_pos violation] at count
    obtain ⟨es, -, events⟩ := receiveIn_events w s
    have first : violationEvents w s = [.codeViolation] := if_pos violation
    refine ⟨?_, es ++ overflowEvents w s, ?_⟩
    · rw [count]
      simp [BitVec.toNat_add]
    · rw [events, first]
      simp only [List.append_assoc]
  case isFalse noViolation => rw [count, if_neg noViolation]

/-! ### The registers (10_state.md R51 to R56; 47_control.md R285 to R289) -/

theorem exec_csrwControl (val : Word) (s : State) : exec (.csrwControl val) s = .next (s.putRegs { s.regs with
    linkResetReq := s.regs.linkResetReq || val.getLsbD 0, scrBypass := val.getLsbD 1 }) := rfl

theorem exec_csrrControl (s : State) : exec .csrrControl s = .next (returnToHost (controlValue s) s) := rfl

@[simp] theorem bit_getLsbD (b : Bool) (k : Nat) : (bit b).getLsbD k = (decide (k = 0) && b) := by
  cases b <;> simp [bit]

/-- CONTROL reads `scr_bypass` in bit 1 and 0 in every other. -/
theorem controlValue_getLsbD (s : State) (k : Nat) :
    (controlValue s).getLsbD k = (decide (k = 1) && s.regs.scrBypass) := by
  unfold controlValue
  simp only [BitVec.getLsbD_append, bit_getLsbD]
  match k with
  | 0 => simp
  | 1 => simp
  | j + 2 => simp

/-- Settles O36: the value CONTROL reads is told bit by bit. -/
theorem controlRegister : Obligations.ControlRegister := by
  unfold Obligations.ControlRegister
  refine ⟨fun _ => ⟨rfl, rfl⟩, fun _ => rfl, fun val s => ⟨?write, controlValue s, exec_csrrControl s, ?bypass, ?rest⟩⟩
  case write =>
    rw [exec_csrwControl]
    cases val.getLsbD 0 <;> simp [State.putRegs]
  case bypass =>
    rw [controlValue_getLsbD]
    simp
  case rest =>
    intro k hk
    simp [controlValue_getLsbD, hk]

theorem exec_csrwClear (val : Word) (s : State) : exec (.csrwClear val) s = .next (s.putRegs { s.regs with
    rxOverflow := s.regs.rxOverflow && !val.getLsbD 0
    cause := if val.getLsbD 1 then 0 else s.regs.cause
    frameDropCount := if val.getLsbD 2 then 0 else s.regs.frameDropCount
    decodeErrorCount := if val.getLsbD 3 then 0 else s.regs.decodeErrorCount }) := rfl

theorem exec_csrrClear (s : State) : exec .csrrClear s = .next (returnToHost 0 s) := rfl

/-- Settles O38: the model masks `rx_overflow` with the inverse of bit 0, and the other fields are as the statement
writes them. -/
theorem clearRegister : Obligations.ClearRegister := by
  unfold Obligations.ClearRegister
  refine ⟨fun _ => ⟨rfl, rfl⟩, fun val s => ⟨?_, exec_csrrClear s⟩⟩
  rw [exec_csrwClear]
  cases val.getLsbD 0 <;> simp [State.putRegs]

theorem exec_csrrFrameDropCount (s : State) :
    exec .csrrFrameDropCount s = .next (returnToHost s.regs.frameDropCount s) := rfl

theorem exec_csrrDecodeErrorCount (s : State) :
    exec .csrrDecodeErrorCount s = .next (returnToHost s.regs.decodeErrorCount s) := rfl

theorem exec_csrwFrameDropCount (val : Word) (s : State) : exec (.csrwFrameDropCount val) s = .next s := rfl

theorem exec_csrwDecodeErrorCount (val : Word) (s : State) : exec (.csrwDecodeErrorCount val) s = .next s := rfl

/-- Settles O39: the four rows of the two offsets, each by what it runs. -/
theorem counterRegisters : Obligations.CounterRegisters := by
  unfold Obligations.CounterRegisters
  exact ⟨fun _ => ⟨rfl, rfl, rfl, rfl⟩, fun val s => ⟨exec_csrrFrameDropCount s, exec_csrrDecodeErrorCount s,
    exec_csrwFrameDropCount val s, exec_csrwDecodeErrorCount val s⟩⟩

theorem exec_csrReserved_read (off val : Word) (s : State) :
    exec (.csrReserved false off val) s = .next (returnToHost 0 s) := rfl

theorem exec_csrReserved_write (off val : Word) (s : State) : exec (.csrReserved true off val) s = .next s := rfl

/-- Past the last register, or no multiple of 4: none of the five offsets (10_state.md R56). -/
theorem not_mem_registerOffsets {off : Word} (h : 0x10 < off.toNat ∨ off.toNat % 4 ≠ 0) : off ∉ registerOffsets := by
  intro hmem
  simp only [registerOffsets, List.mem_cons, List.not_mem_nil, or_false] at hmem
  obtain rfl | rfl | rfl | rfl | rfl := hmem <;> simp at h

theorem decodeRead_unused {off : Word} (h : off ∉ registerOffsets) : decodeRead off = .csrReserved false off 0#32 := by
  simp only [registerOffsets, List.mem_cons, List.not_mem_nil, or_false, not_or] at h
  simp [decodeRead, h]

theorem decodeWrite_unused {off : Word} (val : Word) (h : off ∉ registerOffsets) :
    decodeWrite off val = .csrReserved true off val := by
  simp only [registerOffsets, List.mem_cons, List.not_mem_nil, or_false, not_or] at h
  simp [decodeWrite, h]

/-- Settles O40: an offset that is none of the five decodes to CSR_RESERVED. -/
theorem unusedOffsets : Obligations.UnusedOffsets := by
  unfold Obligations.UnusedOffsets
  intro off val s rest legal hoff
  have unused := not_mem_registerOffsets hoff
  refine ⟨fun scheduled cause => ?read, fun scheduled cause => ?write, exec_csrReserved_read off val s,
    exec_csrReserved_write off val s⟩
  case read =>
    rw [step_eq legal cause scheduled, perform_eq]
    dsimp only
    rw [decodeRead_unused unused]
    exact exec_csrReserved_read off 0 _
  case write =>
    rw [step_eq legal cause scheduled, perform_eq]
    dsimp only
    rw [decodeWrite_unused val unused]
    exact exec_csrReserved_write off val _

end Sys2Proof.Machine
end

section
/-! Who writes the local-bus memory (20_memory.md R63, R68, R74): the end of the completer's write cycle and another
master, each only in the bytes that its byte-enable selects. -/

namespace Sys2Proof.Machine

/-! ### The bytes of a write -/

/-- Lanes written in turn leave a byte alone, or it is one of theirs and reads as the data's. -/
theorem read_foldl_writeLane {addr : Word} {be : ByteEnable} {data : Word} (lanes : List Nat) {m : List Host.Cell}
    (h : Memory.wf m = true) (x : Nat) :
    Memory.read (lanes.foldl (writeLane addr be data) m) x = Memory.read m x ∨
      ∃ k ∈ lanes, be.getLsbD k = true ∧ x = byteAddress addr k ∧
        Memory.read (lanes.foldl (writeLane addr be data) m) x = byteOf data k := by
  induction lanes generalizing m with
  | nil => exact .inl rfl
  | cons i lanes ih =>
    have first := read_writeLane (addr := addr) (be := be) (data := data) (i := i) h x
    obtain kept | ⟨k, mem, lane⟩ := ih (wf_writeLane (addr := addr) (be := be) (data := data) (i := i) h)
    · by_cases hit : be.getLsbD i = true ∧ x = byteAddress addr i
      · rw [if_pos hit] at first
        exact .inr ⟨i, List.mem_cons_self, hit.1, hit.2, kept.trans first⟩
      · rw [if_neg hit] at first
        exact .inl (kept.trans first)
    · exact .inr ⟨k, List.mem_cons_of_mem i mem, lane⟩

/-- A byte that `MemWrite` changes is one its byte-enable selects, and holds the data's. -/
theorem memWrite_changed_byte {m : List Host.Cell} {addr : Word} {be : ByteEnable} {data : Word} {x : Nat}
    (h : Memory.wf m = true) (changed : Memory.read (memWrite m addr be data) x ≠ Memory.read m x) :
    ∃ k, k < 4 ∧ be.getLsbD k = true ∧ x = byteAddress addr k ∧
      Memory.read (memWrite m addr be data) x = byteOf data k := by
  obtain kept | ⟨k, lane, written⟩ := read_foldl_writeLane [0, 1, 2, 3] h x
  · exact absurd kept changed
  · refine ⟨k, ?_, written⟩
    simp only [List.mem_cons, List.not_mem_nil, or_false] at lane
    omega

/-! ### The actions that write -/

/-- The frame of `perform_mem`: no action writes but the end of a local-bus cycle and another master. -/
theorem perform_mem_eq {a : Action} {s t : State} (notDone : ∀ v, a ≠ .busDone v)
    (notOther : ∀ addr be data, a ≠ .otherMaster addr be data) (hp : perform a s = .next t) : t.mem = s.mem := by
  have left := perform_next hp
  cases a with
  | busDone v => exact absurd rfl (notDone v)
  | otherMaster addr be data => exact absurd rfl (notOther addr be data)
  | rst => rw [left]; rfl
  | tick raw phy idle => rw [left, receiveWord_mem]; rfl
  | packetizer => rw [left, packetizerStep_keeps]
  | accept => obtain rfl | ⟨txn, rfl | rfl⟩ := left <;> rfl
  | depacketizer => rw [left, depacketizerStep_mem]
  | receive =>
    obtain rfl | ⟨m, -, received⟩ := left
    · rfl
    · rw [received, tunnelReceive_keeps]
  | hostRead off => obtain ⟨v, rfl⟩ := left; rfl
  | hostWrite off val => obtain ⟨r, rfl, -⟩ := left; rfl
  | present txn => rw [left, presentTxn_eq]
  | group g => rw [left]; rfl
  | encode k v => obtain ⟨rd, p, rfl⟩ := left; rfl

/-- An action that changes the memory performs the `MemWrite` of another master, or of the write cycle it ends. -/
theorem perform_mem_changed {a : Action} {s t : State} (hp : perform a s = .next t) (changed : t.mem ≠ s.mem) :
    ∃ addr be data, t.mem = memWrite s.mem addr be data ∧
      (a = .otherMaster addr be data ∨ s.bus.compOp = .busWrite addr data be ∧ ∃ v, a = .busDone v) := by
  by_cases done : ∃ v, a = .busDone v
  · obtain ⟨v, rfl⟩ := done
    obtain rfl := perform_next hp
    have written := completerBusDone_mem v s
    split at written
    case h_1 addr data be cycle => exact ⟨addr, be, data, written, .inr ⟨cycle, v, rfl⟩⟩
    case h_2 => exact absurd written changed
  by_cases other : ∃ addr be data, a = .otherMaster addr be data
  · obtain ⟨addr, be, data, rfl⟩ := other
    obtain rfl := perform_next hp
    exact ⟨addr, be, data, rfl, .inl rfl⟩
  push Not at done other
  exact absurd (perform_mem_eq done other hp) changed

/-- Other masters are not of the eager schedule (46_endpoint.md R271). -/
theorem nextAction_ne_otherMaster (s : State) (addr : Word) (be : ByteEnable) (data : Word) :
    nextAction s ≠ .otherMaster addr be data := by
  unfold nextAction enabledBusStep
  repeat' split
  all_goals nofun

/-- A step that changes the memory performs the `MemWrite` of another master that its schedule names, or of the write
cycle it ends. -/
theorem step_mem_changed {s t : State} (hs : step s = .next t) (changed : t.mem ≠ s.mem) :
    ∃ addr be data, t.mem = memWrite s.mem addr be data ∧
      (s.agenda.head? = some (.otherMaster addr be data) ∨
        s.bus.compOp = .busWrite addr data be ∧ (s.agenda = [] ∨ ∃ v, s.agenda.head? = some (.busDone v))) := by
  obtain ⟨-, -, ⟨empty, eager⟩ | ⟨a, rest, named, hp⟩⟩ := step_cases hs
  · obtain ⟨addr, be, data, written, other | ⟨cycle, -⟩⟩ := perform_mem_changed eager changed
    · exact absurd other (nextAction_ne_otherMaster s addr be data)
    · exact ⟨addr, be, data, written, .inr ⟨cycle, .inl empty⟩⟩
  · obtain ⟨addr, be, data, written, writer⟩ := perform_mem_changed (s := s.putAgenda rest) hp changed
    simp only [named, List.head?_cons, Option.some.injEq]
    exact ⟨addr, be, data, written, writer.imp_right fun ⟨cycle, done⟩ => ⟨cycle, .inr done⟩⟩

/-! ### The statement -/

/-- Settles O53: the one `MemWrite` of a step that changes the memory, byte by byte. -/
theorem onlyBusWritesChangeMemory : Obligations.OnlyBusWritesChangeMemory := by
  unfold Obligations.OnlyBusWritesChangeMemory
  intro s t a wf hs differs
  have changed : t.mem ≠ s.mem := fun same => differs (by rw [same])
  obtain ⟨addr, be, data, written, writer⟩ := step_mem_changed hs changed
  rw [written] at differs ⊢
  obtain ⟨k, lane, enabled, place, value⟩ := memWrite_changed_byte wf differs
  exact ⟨addr, be, data, k, lane, enabled, place, value, writer⟩

end Sys2Proof.Machine
end

section
/-! The encodings of the five formats (30_encoding.md R91 to R96), both ways: what a unit's bytes read back as, which row
its bits decode to, and which bits that row is written with. -/

namespace Sys2Proof.Machine

-- As in the tests, one proof at a time: each elaboration thread holds a gigabyte, and the check grants 22.
set_option Elab.async false

/-! ### The code book (40_linecodec.md R117, R129) -/

theorem mem_alphabet (sym : Symbol) : sym ∈ alphabet := by
  cases sym with
  | data v =>
    refine List.mem_append_left _ (List.mem_map.mpr ⟨v.toNat, List.mem_range.mpr v.isLt, ?_⟩)
    rw [BitVec.ofNat_toNat, BitVec.setWidth_eq]
  | comma => simp [alphabet]
  | sof => simp [alphabet]

theorem alphabet_nodup : alphabet.Nodup := by
  have bytes : ((List.range 256).map fun n => Symbol.data (BitVec.ofNat 8 n)).Nodup := by
    refine List.nodup_range.map_on fun m hm n hn same => ?_
    rw [List.mem_range] at hm hn
    simpa [Nat.mod_eq_of_lt hm, Nat.mod_eq_of_lt hn] using congrArg BitVec.toNat (Symbol.data.inj same)
  refine List.nodup_append.mpr ⟨bytes, by decide, ?_⟩
  simp

/-- Row n of the decoder's table holds the groups of member n of the alphabet: the search of R119, run on the groups that
R129 and 30_encoding.md R91 write out. -/
theorem symbolOf?_codeRows (rd : RD) :
    codeRows.map (fun r => symbolOf? (column r.1 rd) rd) = alphabet.map some := by
  cases rd <;> decide +kernel

/-- A row's group is that of a member of the alphabet. -/
theorem exists_symbolOf?_of_codeRow {r : CodeRow} (h : r ∈ codeRows) (rd : RD) :
    ∃ sym, symbolOf? (column r.1 rd) rd = some sym := by
  have mem := List.mem_map_of_mem (f := fun r => symbolOf? (column r.1 rd) rd) h
  rw [symbolOf?_codeRows] at mem
  obtain ⟨sym, -, found⟩ := List.mem_map.mp mem
  exact ⟨sym, found.symm⟩

/-- The group that `Encode` gives for a member of the alphabet is a row's. -/
theorem exists_codeRow_of_symbol (sym : Symbol) (rd : RD) :
    ∃ r ∈ codeRows, symbolOf? (column r.1 rd) rd = some sym ∧ (encodeSymbol sym rd).1 = column r.1 rd := by
  have mem := List.mem_map_of_mem (f := some) (mem_alphabet sym)
  rw [← symbolOf?_codeRows rd] at mem
  obtain ⟨r, row, found⟩ := List.mem_map.mp mem
  exact ⟨r, row, found, symbolOf?_sound found⟩

/-- `Decode` finds the symbol that was encoded (40_linecodec.md R119). -/
@[simp] theorem symbolOf?_encodeSymbol (sym : Symbol) (rd : RD) : symbolOf? (encodeSymbol sym rd).1 rd = some sym := by
  obtain ⟨r, -, found, group⟩ := exists_codeRow_of_symbol sym rd
  rw [group, found]

/-- Under one RD the groups of the table are distinct (item 5 of 40_linecodec.md R125). -/
theorem codeRow_unique {r r' : CodeRow} {rd : RD} (h : r ∈ codeRows) (h' : r' ∈ codeRows)
    (same : column r.1 rd = column r'.1 rd) : r = r' := by
  have nodup : (codeRows.map fun r => symbolOf? (column r.1 rd) rd).Nodup := by
    rw [symbolOf?_codeRows]
    exact alphabet_nodup.map (Option.some_injective _)
  exact List.inj_on_of_nodup_map nodup h h' (by rw [same])

/-! ### The catch-all rows (30_encoding.md R91) -/

theorem wf_invalidGroup_iff {rd : RD} {g : Group} : (Instr.invalidGroup rd g).wf = true ↔ symbolOf? g rd = none :=
  beq_iff_eq

theorem wf_lineErr_iff {rd : RD} {w : LineWord} :
    (Instr.lineErr rd w).wf = true ↔ classify (decodeWord w rd).1 = .err := beq_iff_eq

theorem wf_malformedHeader_iff {hdr addr data : Word} :
    (Instr.malformedHeader hdr addr data).wf = true ↔ legalHeader hdr = false := Iff.of_eq (Bool.not_eq_true' _)

theorem wf_csrReserved_iff {write : Bool} {off val : Word} :
    (Instr.csrReserved write off val).wf = true ↔ off ∉ registerOffsets ∧ (write = true ∨ val = 0#32) := by
  have unfolded : (Instr.csrReserved write off val).wf =
      (!registerOffsets.contains off && (write || val == 0#32)) := rfl
  simp [unfolded]

/-! ### Code groups (30_encoding.md R91, R92) -/

theorem decodeGroup_codeRow {r : CodeRow} (h : r ∈ codeRows) (rd : RD) :
    decodeGroup rd (column r.1 rd) = column r.2 rd := by
  unfold decodeGroup
  split
  case h_1 r' found =>
    have same : column r'.1 rd = column r.1 rd := by simpa using List.find?_some found
    rw [codeRow_unique (List.mem_of_find?_eq_some found) h same]
  case h_2 missed => simpa using List.find?_eq_none.mp missed r h

theorem decodeGroup_of_no_symbol {rd : RD} {g : Group} (h : symbolOf? g rd = none) :
    decodeGroup rd g = .invalidGroup rd g := by
  unfold decodeGroup
  split
  case h_1 r found =>
    have group : column r.1 rd = g := by simpa using List.find?_some found
    obtain ⟨sym, symbol⟩ := exists_symbolOf?_of_codeRow (List.mem_of_find?_eq_some found) rd
    rw [group, h] at symbol
    cases symbol
  case h_2 => rfl

theorem codeRows_wf (rd : RD) : codeRows.all (fun r => (column r.2 rd).wf) = true := by
  cases rd <;> decide +kernel

theorem wf_decodeGroup (rd : RD) (g : Group) : (decodeGroup rd g).wf = true := by
  cases symbol : symbolOf? g rd with
  | none =>
    rw [decodeGroup_of_no_symbol symbol]
    exact wf_invalidGroup_iff.mpr symbol
  | some sym =>
    obtain ⟨r, row, -, group⟩ := exists_codeRow_of_symbol sym rd
    rw [← symbolOf?_sound symbol, group, decodeGroup_codeRow row]
    exact List.all_eq_true.mp (codeRows_wf rd) r row

theorem image_of_codeGroupOf {i : Instr} {rd : RD} {g : Group} (h : codeGroupOf i = some (rd, g)) :
    i.image = .group rd g := by
  unfold codeGroupOf at h
  split at h
  case h_1 bits =>
    cases h
    exact bits
  case h_2 => cases h

/-- The place of a code-group row in the decoder's table: these rows are the last constructors of `Instr`, two to a row
of the table, in the table's order. -/
def codeRowIndex (i : Instr) : Nat := (i.ctorIdx - Instr.d0_0neg.ctorIdx) / 2

/-- An instruction with a code group is INVALID_GROUP, or stands in the table with that group. -/
theorem codeGroup_row {i : Instr} {rd : RD} {g : Group} (h : codeGroupOf i = some (rd, g)) :
    i = .invalidGroup rd g ∨ ∃ r ∈ codeRows, column r.1 rd = g ∧ column r.2 rd = i := by
  have place : i = .invalidGroup rd g ∨
      codeRows[codeRowIndex i]?.map (fun r => (column r.1 rd, column r.2 rd)) = some (g, i) := by
    cases i with
    | csrReserved write off val => cases write <;> cases h
    | invalidGroup rd g => cases h; exact .inl rfl
    | _ => cases h <;> exact .inr rfl
  refine place.imp_right fun row => ?_
  obtain ⟨r, found, columns⟩ := Option.map_eq_some_iff.mp row
  obtain ⟨group, instr⟩ := Prod.mk.inj columns
  exact ⟨r, List.mem_of_getElem? found, group, instr⟩

theorem decodeGroup_codeGroupOf {i : Instr} {rd : RD} {g : Group} (h : codeGroupOf i = some (rd, g))
    (wf : i.wf = true) : decodeGroup rd g = i := by
  obtain rfl | ⟨r, row, rfl, rfl⟩ := codeGroup_row h
  · exact decodeGroup_of_no_symbol (wf_invalidGroup_iff.mp wf)
  · exact decodeGroup_codeRow row rd

theorem decodeLane_eq_invalid_iff {g : Group} {rd : RD} : (decodeLane g rd).1 = .invalid ↔ symbolOf? g rd = none := by
  unfold decodeLane
  cases symbolOf? g rd <;> simp

theorem receiveGroup_getLast? (g : Group) (s : State) :
    (receiveGroup g s).rx.lanes.getLast? = some (decodeLane g s.line.decRd).1 := by
  simp [receiveGroup]

/-- Settles O12: a row's group has a symbol exactly where the row is not INVALID_GROUP. -/
theorem legalRowsAreValid : Obligations.LegalRowsAreValid := by
  unfold Obligations.LegalRowsAreValid
  rintro i rd g s row wf rfl
  refine ⟨_, _, exec_codeGroup row s, receiveGroup_getLast? g s, ?invalid, fun sym valid => ?valid⟩
  case invalid =>
    rw [decodeLane_eq_invalid_iff]
    constructor
    · intro noSymbol
      rw [← decodeGroup_codeGroupOf row wf, decodeGroup_of_no_symbol noSymbol]
    · rintro rfl
      exact wf_invalidGroup_iff.mp wf
  case valid => exact congrArg Prod.fst (decodeLane_sound valid)

end Sys2Proof.Machine
end

section
/-! Line words, both ways: what is encoded decodes to itself (40_linecodec.md R120, R122, R123), and the row a word
decodes to is written with that word (30_encoding.md R82, R83, R93). -/

namespace Sys2Proof.Machine

set_option Elab.async false

/-! ### Lanes and bytes (30_encoding.md R81; 20_memory.md R63) -/

theorem splitLanes_joinLanes (g0 g1 g2 g3 : Group) : splitLanes (joinLanes [g0, g1, g2, g3]) = [g0, g1, g2, g3] := by
  have above {n : Nat} (k : Nat) (hi : BitVec n) (lo : Group) :
      (hi ++ lo).extractLsb' (10 + k) 10 = hi.extractLsb' k 10 := by
    rw [BitVec.extractLsb'_append_eq_of_le (Nat.le_add_right 10 k), Nat.add_sub_cancel_left]
  have first {n : Nat} (hi : BitVec n) (lo : Group) : (hi ++ lo).extractLsb' 0 10 = lo :=
    BitVec.extractLsb'_append_eq_right
  have lane0 : laneOf (joinLanes [g0, g1, g2, g3]) 0 = g0 := first (g3 ++ g2 ++ g1) g0
  have lane1 : laneOf (joinLanes [g0, g1, g2, g3]) 1 = g1 := (above 0 (g3 ++ g2 ++ g1) g0).trans (first (g3 ++ g2) g1)
  have lane2 : laneOf (joinLanes [g0, g1, g2, g3]) 2 = g2 :=
    (above 10 (g3 ++ g2 ++ g1) g0).trans ((above 0 (g3 ++ g2) g1).trans (first g3 g2))
  have lane3 : laneOf (joinLanes [g0, g1, g2, g3]) 3 = g3 :=
    (above 20 (g3 ++ g2 ++ g1) g0).trans
      ((above 10 (g3 ++ g2) g1).trans ((above 0 g3 g2).trans BitVec.extractLsb'_eq_self))
  rw [splitLanes, lane0, lane1, lane2, lane3]

/-- The converse of `byteOf_join`. -/
theorem join_byteOf (d : Word) : byteOf d 3 ++ byteOf d 2 ++ byteOf d 1 ++ byteOf d 0 = d := by
  unfold byteOf
  rw [BitVec.extractLsb'_append_extractLsb'_eq_extractLsb' (start₂ := 8 * 3) (start₁ := 8 * 2) rfl,
    BitVec.extractLsb'_append_extractLsb'_eq_extractLsb' (start₂ := 8 * 2) (start₁ := 8 * 1) rfl,
    BitVec.extractLsb'_append_extractLsb'_eq_extractLsb' (start₂ := 8 * 1) (start₁ := 8 * 0) rfl]
  exact BitVec.extractLsb'_eq_self

/-! ### Decoding what is encoded -/

/-- `Decode` inverts `Encode`, and both return the same RD (40_linecodec.md R118, R119). -/
theorem decodeLane_encodeSymbol (sym : Symbol) (rd : RD) :
    decodeLane (encodeSymbol sym rd).1 rd = (.valid sym, (encodeSymbol sym rd).2) := by
  rw [encodeSymbol_rd]
  unfold decodeLane
  rw [symbolOf?_encodeSymbol]

theorem decodeLanes_encodeLanes (syms : List Symbol) (rd : RD) :
    decodeLanes (encodeLanes syms rd).1 rd = (syms.map .valid, (encodeLanes syms rd).2) := by
  induction syms generalizing rd with
  | nil => rfl
  | cons sym rest ih => simp [encodeLanes, decodeLanes, decodeLane_encodeSymbol, ih]

theorem splitLanes_encodeWord (word : TxWord) (rd : RD) :
    splitLanes (encodeWord word rd).1 = (encodeLanes word.symbols rd).1 := by
  cases word <;> exact splitLanes_joinLanes _ _ _ _

/-- `DecodeWord` inverts `EncodeWord`, and both return the same RD (40_linecodec.md R120, R122). -/
theorem decodeWord_encodeWord (word : TxWord) (rd : RD) :
    decodeWord (encodeWord word rd).1 rd = (word.symbols.map .valid, (encodeWord word rd).2) := by
  unfold decodeWord
  rw [splitLanes_encodeWord, decodeLanes_encodeLanes]
  rfl

/-- Four valid data lanes are a DATA word, of their bytes (40_linecodec.md R123). -/
theorem classify_data (d : Word) : classify ((TxWord.data d).symbols.map .valid) = .data d := by
  simp [classify, TxWord.symbols, LaneResult.byte?, join_byteOf]

/-! ### The line-word rows -/

theorem decodeLine_data (rd : RD) (d : Word) : decodeLine rd (encodeWord (.data d) rd).1 = .lineData rd d := by
  unfold decodeLine
  rw [decodeWord_encodeWord, classify_data]

theorem decodeLine_of_err {rd : RD} {w : LineWord} (h : classify (decodeWord w rd).1 = .err) :
    decodeLine rd w = .lineErr rd w := by
  unfold decodeLine
  rw [h]

theorem wf_decodeLine (rd : RD) (w : LineWord) : (decodeLine rd w).wf = true := by
  unfold decodeLine
  split
  case h_4 err => exact wf_lineErr_iff.mpr err
  case h_3 => rfl
  all_goals cases rd <;> rfl

theorem image_of_lineWordOf {i : Instr} {w : LineWord} (h : lineWordOf i = some w) : i.image = .line i.image.rd w := by
  unfold lineWordOf at h
  split at h
  case h_1 rd w bits =>
    cases h
    rw [bits]
    rfl
  case h_2 => cases h

/-- A line word decodes to a row of the RD it arrives under. -/
theorem rd_image_decodeLine (rd : RD) (w : LineWord) : (decodeLine rd w).image.rd = rd := by
  unfold decodeLine
  split <;> cases rd <;> rfl

theorem image_decodeLine (rd : RD) (w : LineWord) : (decodeLine rd w).image = .line rd w := by
  rw [image_of_lineWordOf (lineWordOf_decodeLine rd w), rd_image_decodeLine]

end Sys2Proof.Machine
end

section
/-! The rows above the line code: message headers, register accesses and local-bus transactions, both ways
(30_encoding.md R84 to R96; 47_control.md R285). -/

namespace Sys2Proof.Machine

set_option Elab.async false

/-! ### Message headers (30_encoding.md R85, R86, R90, R94) -/

/-- A header put together from its fields decodes by its TYPE. -/
theorem decodeHeader_headerWord (t : Byte) (be : ByteEnable) (addr data : Word) :
    decodeHeader (headerWord t be) addr data =
      if t = 0x01#8 then .msgWrite be addr data
      else if t = 0x02#8 then .msgRead be addr data
      else if t = 0x03#8 then .msgResponse be addr data
      else .malformedHeader (headerWord t be) addr data := by
  obtain ⟨type, enable, reserved⟩ := headerWord_fields t be
  unfold headerType at type
  unfold headerBe at enable
  unfold decodeHeader
  rw [type, enable, if_pos reserved]

theorem decodeHeader_of_malformed {hdr : Word} (addr data : Word) (h : legalHeader hdr = false) :
    decodeHeader hdr addr data = .malformedHeader hdr addr data := by
  unfold decodeHeader
  by_cases reserved : hdr.extractLsb' 12 20 = 0#20
  · simp only [legalHeader, reserved, beq_self_eq_true, Bool.and_true, Bool.or_eq_false_iff, beq_eq_false_iff_ne] at h
    obtain ⟨⟨write, read⟩, response⟩ := h
    rw [if_pos reserved, if_neg write, if_neg read, if_neg response]
  · rw [if_neg reserved]

theorem headerWord_eq_append (t : Byte) (be : ByteEnable) : headerWord t be = 0#20 ++ be ++ t := by
  revert t be
  decide +kernel

/-- A header whose reserved bits are zero is put together from its TYPE and its BE. -/
theorem headerWord_of_reserved {hdr : Word} (reserved : hdr.extractLsb' 12 20 = 0#20) :
    headerWord (headerType hdr) (headerBe hdr) = hdr := by
  rw [headerWord_eq_append, ← reserved]
  unfold headerType headerBe
  rw [BitVec.extractLsb'_append_extractLsb'_eq_extractLsb' (start₂ := 12) (start₁ := 8) rfl,
    BitVec.extractLsb'_append_extractLsb'_eq_extractLsb' (start₂ := 8) (start₁ := 0) rfl]
  exact BitVec.extractLsb'_eq_self

/-- A header word decodes to a well-formed row with its bits. -/
theorem decodeHeader_faithful (hdr addr data : Word) :
    (decodeHeader hdr addr data).wf = true ∧ (decodeHeader hdr addr data).image = .header hdr addr data := by
  cases legal : legalHeader hdr with
  | false =>
    rw [decodeHeader_of_malformed addr data legal]
    exact ⟨wf_malformedHeader_iff.mpr legal, rfl⟩
  | true =>
    have reserved : hdr.extractLsb' 12 20 = 0#20 := by
      simp only [legalHeader, Bool.and_eq_true, beq_iff_eq] at legal
      exact legal.2
    rw [← headerWord_of_reserved reserved, decodeHeader_headerWord]
    obtain type | type | type := headerType_of_legalHeader legal <;> rw [type] <;> exact ⟨rfl, rfl⟩

/-! ### Register accesses (47_control.md R285; 10_state.md R51 to R56) -/

theorem mem_registerOffsets_iff {off : Word} :
    off ∈ registerOffsets ↔ off = 0x00#32 ∨ off = 0x04#32 ∨ off = 0x08#32 ∨ off = 0x0C#32 ∨ off = 0x10#32 := by
  simp [registerOffsets]

theorem decodeRead_faithful (off : Word) : (decodeRead off).wf = true ∧ (decodeRead off).image = .readAccess off := by
  by_cases used : off ∈ registerOffsets
  · obtain rfl | rfl | rfl | rfl | rfl := mem_registerOffsets_iff.mp used <;> exact ⟨rfl, rfl⟩
  · rw [decodeRead_unused used]
    exact ⟨wf_csrReserved_iff.mpr ⟨used, .inr rfl⟩, rfl⟩

theorem decodeWrite_faithful (off val : Word) :
    (decodeWrite off val).wf = true ∧ (decodeWrite off val).image = .writeAccess off val := by
  by_cases used : off ∈ registerOffsets
  · obtain rfl | rfl | rfl | rfl | rfl := mem_registerOffsets_iff.mp used <;> exact ⟨rfl, rfl⟩
  · rw [decodeWrite_unused val used]
    exact ⟨wf_csrReserved_iff.mpr ⟨used, .inl rfl⟩, rfl⟩

/-- A well-formed CSR_RESERVED is the row of its own access (10_state.md R56). -/
theorem decodeImage_csrReserved {write : Bool} {off val : Word} (wf : (Instr.csrReserved write off val).wf = true) :
    decodeImage (Instr.csrReserved write off val).image = .csrReserved write off val := by
  obtain ⟨unused, value⟩ := wf_csrReserved_iff.mp wf
  cases write with
  | false =>
    obtain rfl : val = 0#32 := value.resolve_left Bool.false_ne_true
    exact decodeRead_unused unused
  | true => exact decodeWrite_unused val unused

end Sys2Proof.Machine
end

section
/-! The bytes of a unit (20_memory.md R64; log entry 4) read back as that unit, and with them the statements about
decoding and encoding, and the discard of a malformed header (30_encoding.md R94). -/

namespace Sys2Proof.Machine

set_option Elab.async false

/-! ### Numbers as bytes -/

@[simp] theorem except_ok_bind {ε α β : Type} (a : α) (f : α → Except ε β) : (Except.ok a >>= f) = f a := rfl

@[simp] theorem except_pure {ε α : Type} (a : α) : (pure a : Except ε α) = .ok a := rfl

@[simp] theorem length_bytesOf (n v : Nat) : (bytesOf n v).length = n := by
  induction n generalizing v with
  | zero => rfl
  | succ n ih => simp [bytesOf, ih]

theorem natOfBytes_bytesOf {n v : Nat} (h : v < 256 ^ n) : natOfBytes (bytesOf n v) = v := by
  induction n generalizing v with
  | zero =>
    rw [Nat.pow_zero, Nat.lt_one_iff] at h
    rw [h]
    rfl
  | succ n ih =>
    have upper : v / 256 < 256 ^ n := Nat.div_lt_of_lt_mul (by rwa [Nat.pow_succ, Nat.mul_comm] at h)
    simp only [bytesOf, natOfBytes, ih upper, BitVec.toNat_ofNat]
    exact Nat.mod_add_div v 256

theorem takeNat_bytesOf {n v : Nat} (h : v < 256 ^ n) (rest : List Byte) :
    takeNat n (bytesOf n v ++ rest) = .ok (v, rest) := by
  have front : (bytesOf n v ++ rest).take n = bytesOf n v := List.take_left' (length_bytesOf n v)
  have back : (bytesOf n v ++ rest).drop n = rest := List.drop_left' (length_bytesOf n v)
  rw [takeNat, front, back, if_pos (length_bytesOf n v), natOfBytes_bytesOf h]

/-- A field that its bytes have room for reads back. -/
theorem takeBits_bytesOf {width n : Nat} (room : width ≤ 8 * n) (x : BitVec width) (rest : List Byte) :
    takeBits width n (bytesOf n x.toNat ++ rest) = .ok (x, rest) := by
  have fits : x.toNat < 256 ^ n := calc
    x.toNat < 2 ^ width := x.isLt
    _ ≤ 2 ^ (8 * n) := Nat.pow_le_pow_right (by decide) room
    _ = 256 ^ n := Nat.pow_mul 2 8 n
  simp [takeBits, takeNat_bytesOf fits, x.isLt]

@[simp] theorem takeNat_byte (b : Byte) (rest : List Byte) : takeNat 1 (b :: rest) = .ok (b.toNat, rest) := by
  simp [takeNat, natOfBytes]

@[simp] theorem takeBits_bit (b : Bool) (rest : List Byte) :
    takeBits 1 1 ((if b then 1#8 else 0#8) :: rest) = .ok (BitVec.ofBool b, rest) := by
  unfold takeBits
  rw [takeNat_byte]
  cases b <;> rfl

/-! ### Units as bytes -/

@[simp] theorem ofBool_beq_one (b : Bool) : (BitVec.ofBool b == 1#1) = b := by cases b <;> rfl

/-- A unit's bytes read back as the unit, whatever follows it (30_encoding.md R96). -/
theorem readImage_bytes (img : Image) (rest : List Byte) :
    readImage img.format img.rd (img.bytes ++ rest) = .ok (img, rest) := by
  have group (g : Group) : takeBits 10 2 (bytesOf 2 g.toNat ++ rest) = .ok (g, rest) :=
    takeBits_bytesOf (by decide) g rest
  have line (w : LineWord) : takeBits 40 5 (bytesOf 5 w.toNat ++ rest) = .ok (w, rest) :=
    takeBits_bytesOf (by decide) w rest
  have word (x : Word) (rest : List Byte) : takeBits 32 4 (bytesOf 4 x.toNat ++ rest) = .ok (x, rest) :=
    takeBits_bytesOf (by decide) x rest
  have enables (be : ByteEnable) : takeBits 4 1 (bytesOf 1 be.toNat ++ rest) = .ok (be, rest) :=
    takeBits_bytesOf (by decide) be rest
  cases img with
  | group rd g => simp [readImage, Image.format, Image.rd, Image.bytes, group]
  | line rd w => simp [readImage, Image.format, Image.rd, Image.bytes, line]
  | header hdr addr data => simp [readImage, Image.format, Image.bytes, word]
  | readAccess off => simp [readImage, Image.format, Image.bytes, word]
  | writeAccess off val => simp [readImage, Image.format, Image.bytes, word]
  | txn we addr data be => simp [readImage, Image.format, Image.bytes, word, enables]

/-! ### Rows and their bits -/

/-- The bits of a well-formed row decode to that row (30_encoding.md R91 to R95). -/
theorem decodeImage_image {i : Instr} (wf : i.wf = true) : decodeImage i.image = i := by
  cases row : codeGroupOf i with
  | some unit =>
    rw [image_of_codeGroupOf row]
    exact decodeGroup_codeGroupOf row wf
  | none =>
    cases i with
    | idleNeg | idlePos | sofNeg | sofPos => decide +kernel
    | lineData rd d => exact decodeLine_data rd d
    | lineErr rd w => exact decodeLine_of_err (wf_lineErr_iff.mp wf)
    | msgWrite be addr data | msgRead be addr data | msgResponse be addr data =>
      exact decodeHeader_headerWord _ be addr data
    | malformedHeader hdr addr data => exact decodeHeader_of_malformed addr data (wf_malformedHeader_iff.mp wf)
    | csrReserved write off val => exact decodeImage_csrReserved wf
    | csrwControl | csrrControl | csrrStatus | csrwStatus | csrwClear | csrrClear | csrrFrameDropCount
    | csrrDecodeErrorCount | csrwFrameDropCount | csrwDecodeErrorCount | txnWr | txnRd => rfl
    | _ => cases row

/-- Settles O1: the bytes read back as the row's bits, and these decode to the row. -/
theorem decodeEncodeAgree : Obligations.DecodeEncodeAgree := by
  unfold Obligations.DecodeEncodeAgree
  intro i rest wf
  unfold decode encode
  rw [readImage_bytes, Except.map, decodeImage_image wf]

/-- Settles O2, format by format. -/
theorem decodedUnitHasItsBits : Obligations.DecodedUnitHasItsBits := by
  unfold Obligations.DecodedUnitHasItsBits
  intro img
  cases img with
  | group rd g => exact ⟨wf_decodeGroup rd g, image_of_codeGroupOf (codeGroupOf_decodeGroup rd g)⟩
  | line rd w => exact ⟨wf_decodeLine rd w, image_decodeLine rd w⟩
  | header hdr addr data => exact decodeHeader_faithful hdr addr data
  | readAccess off => exact decodeRead_faithful off
  | writeAccess off val => exact decodeWrite_faithful off val
  | txn we addr data be => cases we <;> exact ⟨rfl, rfl⟩

/-! ### Malformed headers (30_encoding.md R94; 44_framer.md R217) -/

theorem discardFrame_eq (s : State) :
    discardFrame s = { s with
      bus := { s.bus with depState := .hunt, depBuf := [] }
      regs := { s.regs with frameDropCount := s.regs.frameDropCount + 1 }
      events := s.events ++ [.frameIntegrity] } := rfl

theorem exec_malformedHeader (hdr addr data : Word) (s : State) :
    exec (.malformedHeader hdr addr data) s = .next (discardFrame s) := rfl

/-- Settles O31: the row is one discarded frame. -/
theorem malformedHeaderDiscarded : Obligations.MalformedHeaderDiscarded := by
  unfold Obligations.MalformedHeaderDiscarded
  intro hdr addr data s
  rw [exec_malformedHeader, discardFrame_eq]

end Sys2Proof.Machine
end

section
/-! The LineCodec's statements on one group or one line word (40_linecodec.md R119 to R129): decoding, the code book and
the running disparity. -/

namespace Sys2Proof.Machine

set_option Elab.async false

/-! ### One group (40_linecodec.md R118, R119) -/

theorem symbolOf?_eq_some_iff {g : Group} {rd : RD} {sym : Symbol} :
    symbolOf? g rd = some sym ↔ (encodeSymbol sym rd).1 = g := by
  constructor
  · exact symbolOf?_sound
  · rintro rfl
    exact symbolOf?_encodeSymbol sym rd

theorem decodeLane_eq_valid_iff {g : Group} {rd : RD} {sym : Symbol} :
    (decodeLane g rd).1 = .valid sym ↔ (encodeSymbol sym rd).1 = g := by
  rw [← symbolOf?_eq_some_iff]
  unfold decodeLane
  cases symbolOf? g rd <;> simp

theorem symbolOf?_eq_none_iff {g : Group} {rd : RD} :
    symbolOf? g rd = none ↔ ∀ sym, (encodeSymbol sym rd).1 ≠ g := by
  simp only [Option.eq_none_iff_forall_ne_some, ne_eq, symbolOf?_eq_some_iff]

/-- Settles O4: `Decode` is Valid exactly for the group of a symbol. -/
theorem decodeInvertsEncode : Obligations.DecodeInvertsEncode := by
  unfold Obligations.DecodeInvertsEncode
  intro g rd
  exact ⟨rfl, fun sym => decodeLane_eq_valid_iff.mpr,
    fun noSymbol => decodeLane_eq_invalid_iff.mpr (symbolOf?_eq_none_iff.mpr noSymbol), rfl⟩

/-! ### Written words -/

/-- The bytes of a well-formed row decode to it, under its own format and RD. -/
theorem decode_of_encode {i : Instr} {bytes : List Byte} (wf : i.wf = true) (written : encode i = bytes) :
    (decode i.image.format i.image.rd bytes).toOption = some (i, []) := by
  rw [← written, ← List.append_nil (encode i), decodeEncodeAgree i [] wf]
  rfl

/-- Settles O3: each word is the encoding of its row. -/
theorem writtenWordsDecode : Obligations.WrittenWordsDecode := by
  unfold Obligations.WrittenWordsDecode
  exact ⟨decode_of_encode (i := .k28_5neg) rfl rfl,
    decode_of_encode (i := .invalidGroup .pos 0x17C#10) (by decide +kernel) rfl,
    decode_of_encode (i := .d3_3pos) rfl rfl, decode_of_encode (i := .idleNeg) rfl rfl,
    decode_of_encode (i := .idlePos) rfl rfl, decode_of_encode (i := .sofNeg) rfl rfl,
    decode_of_encode (i := .sofPos) rfl rfl, decode_of_encode (i := .msgRead 0xF#4 0x200#32 0#32) rfl rfl,
    decode_of_encode (i := .csrrStatus) rfl rfl, decode_of_encode (i := .txnRd 0x200#32 0#32 0xF#4) rfl rfl⟩

/-! ### The code book (40_linecodec.md R117, R129) -/

theorem encodeSymbol_injective (rd : RD) : Function.Injective fun sym => (encodeSymbol sym rd).1 := by
  intro a b same
  have found : some a = some b := by
    rw [← symbolOf?_encodeSymbol a rd, ← symbolOf?_encodeSymbol b rd]
    exact congrArg (symbolOf? · rd) same
  exact Option.some.inj found

/-- The rows of one column of the table are the groups of the alphabet, in its order. -/
theorem codeRows_column (rd : RD) :
    codeRows.map (fun r => column r.1 rd) = alphabet.map fun sym => (encodeSymbol sym rd).1 := by
  have encoded : ∀ r ∈ codeRows,
      (symbolOf? (column r.1 rd) rd).map (fun sym => (encodeSymbol sym rd).1) = some (column r.1 rd) := by
    intro r row
    obtain ⟨sym, found⟩ := exists_symbolOf?_of_codeRow row rd
    rw [found, Option.map_some, symbolOf?_sound found]
  refine List.map_injective_iff.mpr (Option.some_injective Group) ?_
  calc (codeRows.map fun r => column r.1 rd).map some
      = codeRows.map fun r => (symbolOf? (column r.1 rd) rd).map fun sym => (encodeSymbol sym rd).1 := by
        rw [List.map_map]
        exact (List.map_congr_left encoded).symm
    _ = (codeRows.map fun r => symbolOf? (column r.1 rd) rd).map (Option.map fun sym => (encodeSymbol sym rd).1) := by
        rw [List.map_map]
        rfl
    _ = (alphabet.map fun sym => (encodeSymbol sym rd).1).map some := by
        rw [symbolOf?_codeRows, List.map_map, List.map_map]
        rfl

theorem alphabet_length : alphabet.length = 258 := by simp [alphabet]

theorem alphabetGroups_nodup (rd : RD) : (alphabet.map fun sym => (encodeSymbol sym rd).1).Nodup :=
  alphabet_nodup.map (encodeSymbol_injective rd)

/-- All 1024 values of a group. -/
def allGroups : List Group := (List.range 1024).map (BitVec.ofNat 10)

theorem mem_allGroups (g : Group) : g ∈ allGroups :=
  List.mem_map.mpr ⟨g.toNat, List.mem_range.mpr g.isLt, by rw [BitVec.ofNat_toNat, BitVec.setWidth_eq]⟩

theorem allGroups_nodup : allGroups.Nodup := by
  refine List.nodup_range.map_on fun m hm n hn same => ?_
  rw [List.mem_range] at hm hn
  simpa [Nat.mod_eq_of_lt hm, Nat.mod_eq_of_lt hn] using congrArg BitVec.toNat same

/-- The groups that `Decode` finds valid are those of the alphabet. -/
theorem validGroups_perm (rd : RD) :
    (allGroups.filter fun g => (symbolOf? g rd).isSome).Perm (alphabet.map fun sym => (encodeSymbol sym rd).1) := by
  refine (List.perm_ext_iff_of_nodup (allGroups_nodup.filter _) (alphabetGroups_nodup rd)).mpr fun g => ?_
  simp only [List.mem_filter, mem_allGroups, true_and, Option.isSome_iff_exists, symbolOf?_eq_some_iff, List.mem_map,
    mem_alphabet]

theorem invalidGroups_count (rd : RD) :
    (List.range 1024).countP (fun g => (decodeLane (BitVec.ofNat 10 g) rd).1 == .invalid) = 766 := by
  have invalid : (fun g => (decodeLane g rd).1 == .invalid) = fun g => !(symbolOf? g rd).isSome := by
    funext g
    unfold decodeLane
    cases symbolOf? g rd <;> rfl
  have valid : allGroups.countP (fun g => (symbolOf? g rd).isSome) = 258 := by
    rw [List.countP_eq_length_filter, (validGroups_perm rd).length_eq, List.length_map, alphabet_length]
  have total := List.length_eq_countP_add_countP (fun g => (symbolOf? g rd).isSome) (l := allGroups)
  have size : allGroups.length = 1024 := by simp [allGroups]
  have counted : (List.range 1024).countP (fun g => (decodeLane (BitVec.ofNat 10 g) rd).1 == .invalid) =
      allGroups.countP fun g => (decodeLane g rd).1 == .invalid := by
    rw [allGroups, List.countP_map]
    rfl
  rw [counted, invalid]
  simp only [Bool.not_eq_true, Bool.decide_eq_false] at total
  omega

/-- Settles O5: the two columns of the table, and a count of the groups that no symbol has. -/
theorem codeBook : Obligations.CodeBook := by
  unfold Obligations.CodeBook
  refine ⟨?rows, alphabet_length, fun rd => ⟨alphabetGroups_nodup rd, invalidGroups_count rd⟩⟩
  case rows =>
    have columns := congrArg₂ List.zip (codeRows_column .neg) (codeRows_column .pos)
    simpa only [List.zip_map', column, Prod.mk.eta] using columns

/-! ### The running disparity after a group (40_linecodec.md R112, R128) -/

theorem rdSub6_keeps_or_sets (s : BitVec 6) :
    (∀ rd, rdSub6 s rd = rd) ∨ ∃ set, ∀ rd, rdSub6 s rd = set := by
  by_cases up : 3 < ones s ∨ s = letters6 0b000111#6
  · exact .inr ⟨.pos, fun _ => if_pos up⟩
  · by_cases down : ones s < 3 ∨ s = letters6 0b111000#6
    · exact .inr ⟨.neg, fun _ => (if_neg up).trans (if_pos down)⟩
    · exact .inl fun _ => (if_neg up).trans (if_neg down)

theorem rdSub4_keeps_or_sets (s : BitVec 4) :
    (∀ rd, rdSub4 s rd = rd) ∨ ∃ set, ∀ rd, rdSub4 s rd = set := by
  by_cases up : 2 < ones s ∨ s = letters4 0b0011#4
  · exact .inr ⟨.pos, fun _ => if_pos up⟩
  · by_cases down : ones s < 2 ∨ s = letters4 0b1100#4
    · exact .inr ⟨.neg, fun _ => (if_neg up).trans (if_pos down)⟩
    · exact .inl fun _ => (if_neg up).trans (if_neg down)

/-- A group whose sub-blocks do not both keep the RD sets it. -/
theorem rdAfter_sets {g : Group}
    (notNeutral : ¬((∀ rd, rdSub6 (abcdei g) rd = rd) ∧ ∀ rd, rdSub4 (fghj g) rd = rd)) (rd rd' : RD) :
    rdAfter g rd = rdAfter g rd' := by
  unfold rdAfter
  obtain keeps4 | ⟨set, sets4⟩ := rdSub4_keeps_or_sets (fghj g)
  · obtain keeps6 | ⟨set, sets6⟩ := rdSub6_keeps_or_sets (abcdei g)
    · exact absurd ⟨keeps6, keeps4⟩ notNeutral
    · rw [sets6, sets6]
  · rw [sets4, sets4]

theorem comma_not_neutral (rd : RD) :
    ¬ ∀ rd', rdSub6 (abcdei (encodeSymbol .comma rd).1) rd' = rd' := by
  intro keeps
  exact absurd (keeps rd) (by cases rd <;> decide)

/-- Where the first lane sets the RD, the rest of the word is received under the same RD. -/
theorem decodeLanes_rd_congr {g : Group} {rd rd' : RD} (same : rdAfter g rd = rdAfter g rd') (rest : List Group) :
    (decodeLanes (g :: rest) rd).2 = (decodeLanes (g :: rest) rd').2 :=
  congrArg (fun r => (decodeLanes rest r).2) same

/-- Settles O10: the first lane of an IDLE word holds the comma, which sets the RD. -/
theorem disparityResynchronises : Obligations.DisparityResynchronises := by
  unfold Obligations.DisparityResynchronises
  refine ⟨fun g => ⟨fun ⟨keeps6, keeps4⟩ rd => ?keeps, rdAfter_sets⟩, fun rd rd' rd'' => ?idle⟩
  case keeps => rw [rdAfter, keeps6, keeps4]
  case idle =>
    have comma := rdAfter_sets (fun neutral => comma_not_neutral rd neutral.1) rd' rd''
    unfold decodeWord
    rw [splitLanes_encodeWord]
    exact decodeLanes_rd_congr comma _

/-! ### Line words (40_linecodec.md R120 to R124) -/

/-- Settles O6: `DecodeWord` gives back the symbols, and these their class. -/
theorem lineWordRoundTrip : Obligations.LineWordRoundTrip := by
  unfold Obligations.LineWordRoundTrip
  intro word rd
  rw [decodeWord_encodeWord]
  cases word with
  | idle => exact ⟨rfl, rfl⟩
  | sof => exact ⟨rfl, rfl⟩
  | data d => exact ⟨classify_data d, rfl⟩

theorem isComma_iff {w : LineWord} : isComma w = true ↔ laneOf w 0 = 0x17C#10 ∨ laneOf w 0 = 0x283#10 := by
  simp [isComma]

/-- Settles O13: outside RESET the row runs the receive path on its word. -/
theorem lineWordDecodes : Obligations.LineWordDecodes := by
  unfold Obligations.LineWordDecodes
  intro i w s row outside
  refine ⟨receiveWord w s, exec_lineWord row s, ?_⟩
  rw [receiveWord, if_neg outside, receiveIn_eq]
  exact ⟨rfl, rfl, isComma_iff, rfl⟩

/-! ### Rows -/

theorem receiveGroup_eq (g : Group) (s : State) :
    receiveGroup g s = { s with
      line := { s.line with decRd := rdAfter g s.line.decRd }
      rx := { s.rx with
        lanes := (if s.rx.lanes.length < 4 then s.rx.lanes else []) ++ [(decodeLane g s.line.decRd).1] } } := by
  have lanes : (if 4 ≤ s.rx.lanes.length then [] else s.rx.lanes) =
      if s.rx.lanes.length < 4 then s.rx.lanes else [] := by
    by_cases room : s.rx.lanes.length < 4
    · rw [if_pos room, if_neg (Nat.not_le.mpr room)]
    · rw [if_neg room, if_pos (Nat.not_lt.mp room)]
  unfold receiveGroup
  rw [lanes]
  rfl

/-- Settles O11: every row is one `Decode` of its group. -/
theorem codeGroupRowsDecode : Obligations.CodeGroupRowsDecode := by
  unfold Obligations.CodeGroupRowsDecode
  intro i rd g s row
  rw [exec_codeGroup row, receiveGroup_eq]

end Sys2Proof.Machine
end

section
/-! Windows of an encoded stream of line words (40_linecodec.md R125). The stream is read as one sequence of symbols; a
window of its bits lies in one group or straddles two, and what no two groups can make is checked in the code book once
for each place where a window can be cut. -/

namespace Sys2Proof.Machine

set_option Elab.async false

/-! ### The stream as a sequence of symbols (40_linecodec.md R120) -/

/-- The bits of an encoded symbol, the first sent first. -/
def symbolBits (sym : Symbol) (rd : RD) : List Bool := groupBits (encodeSymbol sym rd).1

/-- The bits of symbols that are encoded one after the other. -/
def symbolStream : List Symbol → RD → List Bool
  | [], _ => []
  | sym :: rest, rd => symbolBits sym rd ++ symbolStream rest (encodeSymbol sym rd).2

@[simp] theorem length_symbolBits (sym : Symbol) (rd : RD) : (symbolBits sym rd).length = 10 := by
  simp [symbolBits, groupBits]

theorem symbolStream_append (front back : List Symbol) (rd : RD) :
    symbolStream (front ++ back) rd = symbolStream front rd ++ symbolStream back (encodeLanes front rd).2 := by
  induction front generalizing rd with
  | nil => rfl
  | cons sym rest ih => simp [symbolStream, encodeLanes, ih]

theorem flatMap_groupBits_encodeLanes (syms : List Symbol) (rd : RD) :
    (encodeLanes syms rd).1.flatMap groupBits = symbolStream syms rd := by
  induction syms generalizing rd with
  | nil => rfl
  | cons sym rest ih => simp [symbolStream, symbolBits, encodeLanes, ih]

theorem groupBits_laneOf (w : LineWord) (l : Nat) :
    groupBits (laneOf w l) = (List.range 10).map fun k => w.getLsbD (10 * l + k) :=
  List.map_congr_left fun k letter => by simp [laneOf, List.mem_range.mp letter]

/-- A line word is sent lane by lane, lane 0 first (30_encoding.md R81). -/
theorem lineBits_eq_lanes (w : LineWord) : lineBits w = (splitLanes w).flatMap groupBits := by
  have places : List.range 40 = (List.range 4).flatMap fun l => (List.range 10).map fun k => 10 * l + k := rfl
  have lanes : splitLanes w = (List.range 4).map (laneOf w) := rfl
  rw [lineBits, places, List.map_flatMap, lanes, List.flatMap_map]
  simp only [groupBits_laneOf, List.map_map]
  rfl

theorem lineBits_encodeWord (word : TxWord) (rd : RD) :
    lineBits (encodeWord word rd).1 = symbolStream word.symbols rd := by
  rw [lineBits_eq_lanes, splitLanes_encodeWord, flatMap_groupBits_encodeLanes]

theorem streamBits_encodeStream (words : List TxWord) (rd : RD) :
    streamBits (encodeStream words rd) = symbolStream (words.flatMap TxWord.symbols) rd := by
  induction words generalizing rd with
  | nil => rfl
  | cons word rest ih =>
    rw [List.flatMap_cons, symbolStream_append, ← lineBits_encodeWord]
    exact congrArg (lineBits (encodeWord word rd).1 ++ ·) (ih _)

/-! ### Windows of the stream -/

/-- The bits `w` are the end of one encoded symbol and the beginning of the next. -/
def Straddles (w : List Bool) : Prop :=
  ∃ k, 0 < k ∧ k < w.length ∧ ∃ first next rd,
    (symbolBits first rd).drop (10 - k) = w.take k ∧
    (symbolBits next (encodeSymbol first rd).2).take (w.length - k) = w.drop k

/-- Bits that run past the end of a symbol, and no further than the next one, straddle the two. -/
theorem straddles_of_window {w : List Bool} {sym : Symbol} {rest : List Symbol} {rd : RD} {p : Nat}
    (short : w.length ≤ 10) (inside : p < 10) (past : 10 < p + w.length)
    (found : ((symbolBits sym rd).drop p ++ symbolStream rest (encodeSymbol sym rd).2).take w.length = w) :
    Straddles w := by
  have headLength : ((symbolBits sym rd).drop p).length = 10 - p := by simp
  have split : (symbolBits sym rd).drop p ++
      (symbolStream rest (encodeSymbol sym rd).2).take (w.length - (10 - p)) = w := by
    rw [List.take_append, headLength, List.take_of_length_le (by omega)] at found
    exact found
  have head : (symbolBits sym rd).drop p = w.take (10 - p) :=
    (List.take_left' headLength).symm.trans (congrArg (List.take (10 - p)) split)
  have tail : (symbolStream rest (encodeSymbol sym rd).2).take (w.length - (10 - p)) = w.drop (10 - p) :=
    (List.drop_left' headLength).symm.trans (congrArg (List.drop (10 - p)) split)
  cases rest with
  | nil =>
    have noBits := congrArg List.length tail
    simp only [symbolStream, List.take_nil, List.length_nil, List.length_drop] at noBits
    omega
  | cons next rest =>
    refine ⟨10 - p, by omega, by omega, sym, next, rd, ?_, ?_⟩
    · rw [Nat.sub_sub_self inside.le, head]
    · rw [symbolStream, List.take_append_of_le_length (by rw [length_symbolBits]; omega)] at tail
      exact tail

/-- Where bits `w` stand on a stream, they lie in one symbol or straddle two. -/
theorem window_cases {w : List Bool} (nonempty : 0 < w.length) (short : w.length ≤ 10) {syms : List Symbol} {rd : RD}
    {p : Nat} (found : ((symbolStream syms rd).drop p).take w.length = w) :
    Straddles w ∨ ∃ sym r, syms[p / 10]? = some sym ∧ p % 10 + w.length ≤ 10 ∧
      ((symbolBits sym r).drop (p % 10)).take w.length = w := by
  induction syms generalizing rd p with
  | nil =>
    have noBits := congrArg List.length found
    simp only [symbolStream, List.drop_nil, List.take_nil, List.length_nil] at noBits
    omega
  | cons sym rest ih =>
    rw [symbolStream, List.drop_append, length_symbolBits] at found
    by_cases inside : p < 10
    · rw [Nat.sub_eq_zero_of_le inside.le, List.drop_zero] at found
      by_cases past : 10 < p + w.length
      · exact .inl (straddles_of_window short inside past found)
      · rw [List.take_append_of_le_length (by rw [List.length_drop, length_symbolBits]; omega)] at found
        rw [Nat.div_eq_of_lt inside, Nat.mod_eq_of_lt inside]
        exact .inr ⟨sym, rd, rfl, by omega, found⟩
    · rw [List.drop_eq_nil_of_le (by rw [length_symbolBits]; omega), List.nil_append] at found
      have next : p / 10 = (p - 10) / 10 + 1 := by omega
      have place : p % 10 = (p - 10) % 10 := by omega
      rw [next, place, List.getElem?_cons_succ]
      exact ih found

/-- The bits at the place of a symbol are that symbol's, under the RD that the stream has there. -/
theorem window_at_symbol {syms : List Symbol} {i : Nat} {sym : Symbol} (h : syms[i]? = some sym) (rd : RD) :
    ∃ r, ((symbolStream syms rd).drop (10 * i)).take 10 = symbolBits sym r := by
  induction syms generalizing rd i with
  | nil => cases h
  | cons first rest ih =>
    cases i with
    | zero =>
      cases h
      exact ⟨rd, List.take_left' (length_symbolBits sym rd)⟩
    | succ i =>
      rw [symbolStream, Nat.mul_succ, Nat.add_comm, ← List.drop_drop, List.drop_left' (length_symbolBits first rd)]
      exact ih h _

/-! ### The code book's groups as numbers -/

/-- Letters as a number, the first the lowest bit: a group's own value (30_encoding.md R80). -/
def letterValue : List Bool → Nat
  | [] => 0
  | b :: rest => b.toNat + 2 * letterValue rest

theorem letterValue_drop (n : Nat) (l : List Bool) : letterValue (l.drop n) = letterValue l / 2 ^ n := by
  induction n generalizing l with
  | zero => simp
  | succ n ih =>
    cases l with
    | nil => simp [letterValue]
    | cons b rest =>
      have upper : (b.toNat + 2 * letterValue rest) / 2 = letterValue rest := by
        have := b.toNat_lt
        omega
      rw [List.drop_succ_cons, ih, letterValue, Nat.pow_succ', ← Nat.div_div_eq_div_mul, upper]

theorem letterValue_take (n : Nat) (l : List Bool) : letterValue (l.take n) = letterValue l % 2 ^ n := by
  induction n generalizing l with
  | zero => simp [letterValue, Nat.mod_one]
  | succ n ih =>
    cases l with
    | nil => simp [letterValue]
    | cons b rest =>
      have lowest := b.toNat_lt
      have upper : (b.toNat + 2 * letterValue rest) / 2 = letterValue rest := by omega
      have lower : (b.toNat + 2 * letterValue rest) % 2 = b.toNat := by omega
      rw [List.take_succ_cons, letterValue, letterValue, ih, Nat.pow_succ', Nat.mod_mul, upper, lower]

theorem letterValue_testBit (n v : Nat) : letterValue ((List.range n).map v.testBit) = v % 2 ^ n := by
  induction n generalizing v with
  | zero => simp [letterValue, Nat.mod_one]
  | succ n ih =>
    have upper : (List.range n).map (v.testBit ∘ Nat.succ) = (List.range n).map (v / 2).testBit :=
      List.map_congr_left fun i _ => Nat.testBit_succ v i
    rw [List.range_succ_eq_map, List.map_cons, List.map_map, upper, letterValue, ih, Nat.pow_succ', Nat.mod_mul,
      Nat.testBit_zero]
    congr 1
    obtain bit | bit := Nat.mod_two_eq_zero_or_one v <;> simp [bit]

theorem letterValue_groupBits (g : Group) : letterValue (groupBits g) = g.toNat :=
  (letterValue_testBit 10 g.toNat).trans (Nat.mod_eq_of_lt g.isLt)

/-- The groups of the alphabet under one RD, as the decoder's table writes them out (40_linecodec.md R129). -/
def bookGroups (rd : RD) : List Group := codeRows.map fun r => column r.1 rd

theorem encodeSymbol_mem_bookGroups (sym : Symbol) (rd : RD) : (encodeSymbol sym rd).1 ∈ bookGroups rd := by
  rw [bookGroups, codeRows_column]
  exact List.mem_map_of_mem (mem_alphabet sym)

/-- No group of the code book ends with the letters `l` and leaves the RD at `rd`. -/
def endsNowhere (l : List Bool) (rd : RD) : Bool :=
  [RD.neg, .pos].all fun r => (bookGroups r).all fun g =>
    g.toNat / 2 ^ (10 - l.length) != letterValue l || rdAfter g r != rd

/-- No group of the code book under `rd` begins with the letters `l`. -/
def beginsNowhere (l : List Bool) (rd : RD) : Bool :=
  (bookGroups rd).all fun g => g.toNat % 2 ^ l.length != letterValue l

/-- No group of the code book has the letters `l` from letter `k` on. -/
def standsNowhere (l : List Bool) (k : Nat) : Bool :=
  [RD.neg, .pos].all fun r => (bookGroups r).all fun g => g.toNat / 2 ^ k % 2 ^ l.length != letterValue l

/-- However `l` is cut in two, no group ends with the first part at the RD where a group begins with the second. -/
def neverCut (l : List Bool) : Bool :=
  (List.range l.length).all fun k =>
    k == 0 || [RD.neg, .pos].all fun rd => beginsNowhere (l.drop k) rd || endsNowhere (l.take k) rd

theorem mem_rds (rd : RD) : rd ∈ [RD.neg, .pos] := by cases rd <;> simp

theorem endsNowhere_sound {l : List Bool} {sym : Symbol} {rd : RD}
    (h : endsNowhere l (encodeSymbol sym rd).2 = true) : (symbolBits sym rd).drop (10 - l.length) ≠ l := by
  intro ends
  have group := List.all_eq_true.mp (List.all_eq_true.mp h rd (mem_rds rd)) _ (encodeSymbol_mem_bookGroups sym rd)
  have value := congrArg letterValue ends
  rw [letterValue_drop, symbolBits, letterValue_groupBits] at value
  simp [value, ← encodeSymbol_rd] at group

theorem beginsNowhere_sound {l : List Bool} {rd : RD} (h : beginsNowhere l rd = true) (sym : Symbol) :
    (symbolBits sym rd).take l.length ≠ l := by
  intro begins
  have group := List.all_eq_true.mp h _ (encodeSymbol_mem_bookGroups sym rd)
  have value := congrArg letterValue begins
  rw [letterValue_take, symbolBits, letterValue_groupBits] at value
  simp [value] at group

theorem standsNowhere_sound {l : List Bool} {k : Nat} (h : standsNowhere l k = true) (sym : Symbol) (rd : RD) :
    ((symbolBits sym rd).drop k).take l.length ≠ l := by
  intro stands
  have group := List.all_eq_true.mp (List.all_eq_true.mp h rd (mem_rds rd)) _ (encodeSymbol_mem_bookGroups sym rd)
  have value := congrArg letterValue stands
  rw [letterValue_take, letterValue_drop, symbolBits, letterValue_groupBits] at value
  simp [value] at group

theorem not_straddles_of_neverCut {w : List Bool} (h : neverCut w = true) : ¬Straddles w := by
  rintro ⟨k, positive, inside, first, next, rd, ends, begins⟩
  have cut := List.all_eq_true.mp h k (List.mem_range.mpr inside)
  rw [Bool.or_eq_true, beq_eq_false_iff_ne.mpr positive.ne', List.all_eq_true] at cut
  have nowhere := cut.resolve_left Bool.false_ne_true _ (mem_rds (encodeSymbol first rd).2)
  rw [Bool.or_eq_true] at nowhere
  obtain nowhere | nowhere := nowhere
  · exact beginsNowhere_sound nowhere next (by rw [List.length_drop]; exact begins)
  · exact endsNowhere_sound nowhere (by rw [List.length_take_of_le inside.le]; exact ends)

/-! ### Runs (item 3 of 40_linecodec.md R125) -/

theorem run_neverCut (b : Bool) : neverCut (List.replicate 6 b) = true := by cases b <;> decide +kernel

theorem run_standsNowhere (b : Bool) : (List.range 5).all (standsNowhere (List.replicate 6 b)) = true := by
  cases b <;> decide +kernel

/-- Settles O8: a run of six neither lies in a group nor straddles two. -/
theorem runLengthAtMostFive : Obligations.RunLengthAtMostFive := by
  unfold Obligations.RunLengthAtMostFive
  intro words rd p b run
  rw [streamBits_encodeStream] at run
  have found : ((symbolStream (words.flatMap TxWord.symbols) rd).drop p).take (List.replicate 6 b).length =
      List.replicate 6 b := by rwa [List.length_replicate]
  have short : (List.replicate 6 b).length ≤ 10 := by simp
  obtain straddles | ⟨sym, r, -, inside, stands⟩ := window_cases (by simp) short found
  · exact not_straddles_of_neverCut (run_neverCut b) straddles
  · have place : p % 10 ∈ List.range 5 := by
      rw [List.length_replicate] at inside
      exact List.mem_range.mpr (by omega)
    exact standsNowhere_sound (List.all_eq_true.mp (run_standsNowhere b) _ place) sym r stands

end Sys2Proof.Machine
end

section
/-! The running sum of an encoded stream (40_linecodec.md R110; item 2 of R125): each sub-block is a row of the tables
and takes the sum from one running disparity's to the next one's, within the bounds. -/

namespace Sys2Proof.Machine

set_option Elab.async false

/-! ### The bits of sub-blocks -/

/-- The bits of a sub-block, the first sent first. -/
def subBits {n : Nat} (s : BitVec n) : List Bool := (List.range n).map s.getLsbD

@[simp] theorem length_subBits {n : Nat} (s : BitVec n) : (subBits s).length = n := by simp [subBits]

theorem subBits_append {m n : Nat} (a : BitVec m) (b : BitVec n) :
    (List.range (n + m)).map (a ++ b).getLsbD = subBits b ++ subBits a := by
  have low : (List.range n).map (a ++ b).getLsbD = subBits b :=
    List.map_congr_left fun k letter => by simp [BitVec.getLsbD_append, List.mem_range.mp letter]
  have high : (List.range m).map ((a ++ b).getLsbD ∘ (n + ·)) = subBits a :=
    List.map_congr_left fun k _ => by simp [BitVec.getLsbD_append]
  rw [List.range_add, List.map_append, List.map_map, low, high]

/-- A group is sent as its 6b sub-block and then its 4b sub-block (40_linecodec.md R118). -/
theorem symbolBits_eq_sub (sym : Symbol) (rd : RD) :
    symbolBits sym rd = subBits (sub6 sym rd) ++ subBits (sub4 sym (rdSub6 (sub6 sym rd) rd)) :=
  subBits_append _ _

/-! ### The running sum of bits -/

theorem runningSum_append (a b : List Bool) : runningSum (a ++ b) = runningSum a + runningSum b := by
  simp [runningSum]

/-- Bits sent from `rd` keep the running sum within its bounds and leave it where the RD is `after`. -/
structure Balanced (bs : List Bool) (rd after : RD) : Prop where
  within : ∀ n, -2 ≤ sumAt rd + runningSum (bs.take n) ∧ sumAt rd + runningSum (bs.take n) ≤ 4
  ends : sumAt rd + runningSum bs = sumAt after

theorem Balanced.append {a b : List Bool} {rd mid after : RD} (ha : Balanced a rd mid) (hb : Balanced b mid after) :
    Balanced (a ++ b) rd after where
  within n := by
    by_cases inA : n ≤ a.length
    · rw [List.take_append_of_le_length inA]
      exact ha.within n
    · rw [List.take_append, List.take_of_length_le (Nat.le_of_not_le inA), runningSum_append, ← add_assoc, ha.ends]
      exact hb.within _
  ends := by rw [runningSum_append, ← add_assoc, ha.ends, hb.ends]

/-- `Balanced` as a check, bit by bit. -/
def balanced (bs : List Bool) (rd after : RD) : Bool :=
  (List.range (bs.length + 1)).all (fun n =>
    decide (-2 ≤ sumAt rd + runningSum (bs.take n)) && decide (sumAt rd + runningSum (bs.take n) ≤ 4)) &&
  decide (sumAt rd + runningSum bs = sumAt after)

theorem balanced_sound {bs : List Bool} {rd after : RD} (h : balanced bs rd after = true) : Balanced bs rd after := by
  simp only [balanced, Bool.and_eq_true, List.all_eq_true, decide_eq_true_eq, List.mem_range] at h
  obtain ⟨within, ends⟩ := h
  refine ⟨fun n => ?_, ends⟩
  rw [List.take_eq_take_min]
  exact within _ (by omega)

/-! ### Rows, symbols and streams -/

/-- Every row that a 6b sub-block comes from (40_linecodec.md R113). -/
def rows6 : List (BitVec 6 × BitVec 6) := rowK28 :: table6

/-- Every row that a 4b sub-block comes from (40_linecodec.md R114, R116). -/
def rows4 : List (BitVec 4 × BitVec 4) := rowA7 :: (table4D ++ table4K)

theorem rows6_balanced (rd : RD) : rows6.all (fun row =>
    balanced (subBits (letters6 (column row rd))) rd (rdSub6 (letters6 (column row rd)) rd)) = true := by
  cases rd <;> decide +kernel

theorem rows4_balanced (rd : RD) : rows4.all (fun row =>
    balanced (subBits (letters4 (column row rd))) rd (rdSub4 (letters4 (column row rd)) rd)) = true := by
  cases rd <;> decide +kernel

theorem getD_mem {α : Type} {l : List α} {n : Nat} (h : n < l.length) (d : α) : l.getD n d ∈ l := by
  rw [List.getD_eq_getElem l d h]
  exact List.getElem_mem h

theorem exists_row_of_sub6 (sym : Symbol) (rd : RD) : ∃ row ∈ rows6, sub6 sym rd = letters6 (column row rd) := by
  unfold sub6
  split
  · exact ⟨rowK28, List.mem_cons_self, rfl⟩
  · exact ⟨_, List.mem_cons_of_mem _ (getD_mem (BitVec.isLt (w := 5) _) (0, 0)), rfl⟩

theorem exists_row_of_sub4 (sym : Symbol) (rd : RD) : ∃ row ∈ rows4, sub4 sym rd = letters4 (column row rd) := by
  have y : (sym.v.extractLsb' 5 3).toNat < 8 := BitVec.isLt _
  unfold sub4
  dsimp only
  split
  · exact ⟨_, List.mem_cons_of_mem _ (List.mem_append_right _ (getD_mem y (0, 0))), rfl⟩
  · split
    · exact ⟨rowA7, List.mem_cons_self, rfl⟩
    · exact ⟨_, List.mem_cons_of_mem _ (List.mem_append_left _ (getD_mem y (0, 0))), rfl⟩

theorem sub6_balanced (sym : Symbol) (rd : RD) : Balanced (subBits (sub6 sym rd)) rd (rdSub6 (sub6 sym rd) rd) := by
  obtain ⟨row, mem, sub⟩ := exists_row_of_sub6 sym rd
  rw [sub]
  exact balanced_sound (List.all_eq_true.mp (rows6_balanced rd) row mem)

theorem sub4_balanced (sym : Symbol) (rd : RD) : Balanced (subBits (sub4 sym rd)) rd (rdSub4 (sub4 sym rd) rd) := by
  obtain ⟨row, mem, sub⟩ := exists_row_of_sub4 sym rd
  rw [sub]
  exact balanced_sound (List.all_eq_true.mp (rows4_balanced rd) row mem)

theorem symbolBits_balanced (sym : Symbol) (rd : RD) : Balanced (symbolBits sym rd) rd (encodeSymbol sym rd).2 := by
  rw [symbolBits_eq_sub]
  exact (sub6_balanced sym rd).append (sub4_balanced sym _)

theorem symbolStream_balanced (syms : List Symbol) (rd : RD) :
    Balanced (symbolStream syms rd) rd (encodeLanes syms rd).2 := by
  induction syms generalizing rd with
  | nil => exact balanced_sound (by cases rd <;> decide)
  | cons sym rest ih => exact (symbolBits_balanced sym rd).append (ih _)

/-- At a sub-block boundary the running sum is that of a running disparity. -/
theorem sum_at_boundary (syms : List Symbol) (rd : RD) {n : Nat} (boundary : n % 10 = 0 ∨ n % 10 = 6) :
    ∃ after, sumAt rd + runningSum ((symbolStream syms rd).take n) = sumAt after := by
  induction syms generalizing rd n with
  | nil => exact ⟨rd, by simp [symbolStream, runningSum]⟩
  | cons sym rest ih =>
    by_cases inside : n < 10
    · obtain start | middle := boundary
      · obtain rfl : n = 0 := by omega
        exact ⟨rd, by simp [runningSum]⟩
      · obtain rfl : n = 6 := by omega
        rw [symbolStream, symbolBits_eq_sub, List.append_assoc, List.take_left' (length_subBits _)]
        exact ⟨_, (sub6_balanced sym rd).ends⟩
    · obtain ⟨after, sum⟩ := ih (encodeSymbol sym rd).2 (n := n - 10) (by omega)
      rw [symbolStream, List.take_append, length_symbolBits,
        List.take_of_length_le (by rw [length_symbolBits]; omega), runningSum_append, ← add_assoc,
        (symbolBits_balanced sym rd).ends]
      exact ⟨after, sum⟩

/-- Settles O7: sub-block by sub-block, each being a row of the tables. -/
theorem runningSumBounded : Obligations.RunningSumBounded := by
  unfold Obligations.RunningSumBounded
  intro words rd n
  rw [streamBits_encodeStream]
  refine ⟨(symbolStream_balanced _ rd).within n, fun boundary => ?_⟩
  obtain ⟨after, sum⟩ := sum_at_boundary (words.flatMap TxWord.symbols) rd boundary
  rw [sum]
  cases after
  · exact .inl rfl
  · exact .inr rfl

end Sys2Proof.Machine
end

section
/-! The commas of an encoded stream (40_linecodec.md R124; item 4 of R125): those of its symbols, and these stand in
lane 0 of the IDLE words. -/

namespace Sys2Proof.Machine

set_option Elab.async false

/-! ### Commas among symbols -/

/-- The two comma patterns (40_linecodec.md R124). -/
def IsCommaPattern (g : Group) : Prop := g = 0x17C#10 ∨ g = 0x283#10

theorem comma_neverCut {g : Group} (h : IsCommaPattern g) : neverCut (groupBits g) = true := by
  obtain rfl | rfl := h <;> decide +kernel

theorem symbolOf?_of_isCommaPattern {g : Group} (h : IsCommaPattern g) (rd : RD) :
    symbolOf? g rd = some .comma ∨ symbolOf? g rd = none := by
  obtain rfl | rfl := h <;> cases rd <;> decide +kernel

theorem isCommaPattern_encodeSymbol_iff {sym : Symbol} {rd : RD} :
    IsCommaPattern (encodeSymbol sym rd).1 ↔ sym = .comma := by
  constructor
  · intro pattern
    have found := symbolOf?_encodeSymbol sym rd
    obtain comma | noSymbol := symbolOf?_of_isCommaPattern pattern rd
    · exact (Option.some.inj (comma.symm.trans found)).symm
    · cases noSymbol.symm.trans found
  · rintro rfl
    cases rd
    · exact .inl rfl
    · exact .inr rfl

theorem groupBits_injective : Function.Injective groupBits := fun g g' same =>
  BitVec.eq_of_toNat_eq (by rw [← letterValue_groupBits, ← letterValue_groupBits, same])

/-- A comma pattern stands on a stream of symbols exactly where a comma was encoded. -/
theorem comma_at_iff (syms : List Symbol) (rd : RD) (p : Nat) :
    (∃ g, IsCommaPattern g ∧ groupAt (symbolStream syms rd) p = groupBits g) ↔
      p % 10 = 0 ∧ syms[p / 10]? = some .comma := by
  constructor
  · rintro ⟨g, pattern, found⟩
    have size : (groupBits g).length = 10 := by simp [groupBits]
    have window : ((symbolStream syms rd).drop p).take (groupBits g).length = groupBits g := by rwa [size]
    obtain straddles | ⟨sym, r, symbol, inside, stands⟩ := window_cases (by omega) size.le window
    · exact absurd straddles (not_straddles_of_neverCut (comma_neverCut pattern))
    · have start : p % 10 = 0 := by omega
      rw [start, List.drop_zero, size, List.take_of_length_le (length_symbolBits sym r).le] at stands
      rw [← groupBits_injective stands] at pattern
      rw [isCommaPattern_encodeSymbol_iff.mp pattern] at symbol
      exact ⟨start, symbol⟩
  · rintro ⟨start, comma⟩
    obtain ⟨r, found⟩ := window_at_symbol comma rd
    rw [Nat.mul_div_cancel' (Nat.dvd_of_mod_eq_zero start)] at found
    exact ⟨_, isCommaPattern_encodeSymbol_iff.mpr rfl, found⟩

/-! ### Commas among words -/

/-- The symbols of a stream of words, four to a word. -/
theorem getElem?_symbols (words : List TxWord) (q : Nat) :
    (words.flatMap TxWord.symbols)[q]? = words[q / 4]?.bind fun word => word.symbols[q % 4]? := by
  induction words generalizing q with
  | nil => simp
  | cons word rest ih =>
    have four : word.symbols.length = 4 := by cases word <;> rfl
    rw [List.flatMap_cons, List.getElem?_append, four]
    split
    · rename_i first
      rw [Nat.div_eq_of_lt first, Nat.mod_eq_of_lt first]
      rfl
    · rename_i later
      have next : q / 4 = (q - 4) / 4 + 1 := by omega
      have place : q % 4 = (q - 4) % 4 := by omega
      rw [ih, next, place, List.getElem?_cons_succ]

/-- Only an IDLE word holds a comma, in lane 0 (30_encoding.md R82). -/
theorem symbols_comma_iff {word : TxWord} {l : Nat} : word.symbols[l]? = some .comma ↔ l = 0 ∧ word = .idle := by
  obtain _ | _ | _ | _ | l := l <;> cases word <;> simp [TxWord.symbols]

/-- Settles O9: the commas of a stream are those of its symbols, and of these the lanes 0 of its IDLE words. -/
theorem commaOnlyAtIdle : Obligations.CommaOnlyAtIdle := by
  unfold Obligations.CommaOnlyAtIdle
  intro words rd p
  rw [streamBits_encodeStream]
  calc (groupAt (symbolStream (words.flatMap TxWord.symbols) rd) p = groupBits 0x17C#10 ∨
        groupAt (symbolStream (words.flatMap TxWord.symbols) rd) p = groupBits 0x283#10)
      ↔ ∃ g, IsCommaPattern g ∧ groupAt (symbolStream (words.flatMap TxWord.symbols) rd) p = groupBits g := by
        simp [IsCommaPattern, or_and_right, exists_or]
    _ ↔ p % 10 = 0 ∧ (words.flatMap TxWord.symbols)[p / 10]? = some .comma := comma_at_iff _ rd p
    _ ↔ p % 10 = 0 ∧ p / 10 % 4 = 0 ∧ words[p / 10 / 4]? = some .idle := by
        simp [getElem?_symbols, Option.bind_eq_some_iff, symbols_comma_iff, and_comm]
    _ ↔ p % 40 = 0 ∧ words[p / 40]? = some .idle := by
        rw [Nat.div_div_eq_div_mul, ← and_assoc]
        exact and_congr_left' (by omega)

end Sys2Proof.Machine
end

section
/-! The aligner's statements (41_bitaligner.md R140 to R151): the hunt step and the drift check from the equations of
`alignStep`, and word recovery from the channel read as one number, of which a raw word and an aligned word are 40 bits
each. -/

namespace Sys2Proof.Machine

set_option Elab.async false

/-! ### The aligner step by case (41_bitaligner.md R143 to R145) -/

theorem hunting_of_unlocked {st : LinkState} {l : Line} (hunts : st = .sendTraining ∨ st = .waitAlign)
    (unlocked : l.lock = false) : hunting st l = true := by
  obtain rfl | rfl := hunts <;> simp [hunting, unlocked]

theorem hunting_of_locked {st : LinkState} {l : Line} (locked : l.lock = true) : hunting st l = false := by
  simp [hunting, locked]

theorem alignStep_of_hunting {cfg : Params} {st : LinkState} {comma elsewhere : Bool} {l : Line}
    (hunts : hunting st l = true) :
    alignStep cfg st comma elsewhere l = if comma then huntComma cfg l else huntSlip cfg l := if_pos hunts

theorem alignStep_of_locked {cfg : Params} {st : LinkState} {comma elsewhere : Bool} {l : Line}
    (locked : l.lock = true) (live : st ≠ .error) :
    alignStep cfg st comma elsewhere l = driftCheck cfg comma elsewhere l := by
  simp [alignStep, hunting_of_locked locked, locked, live]

/-- Below the lock limit the count of commas does not wrap. -/
theorem huntComma_commaRun {cfg : Params} {l : Line} (legal : cfg.legal = true)
    (unspent : l.commaRun.toNat < cfg.lockCount) : (huntComma cfg l).commaRun.toNat = l.commaRun.toNat + 1 := by
  obtain ⟨-, -, ⟨-, small⟩, -⟩ := (Params.legal_iff _).mp legal
  exact Nat.mod_eq_of_lt (by omega)

theorem huntComma_lock_iff {cfg : Params} {l : Line} :
    (huntComma cfg l).lock = true ↔ cfg.lockCount ≤ l.commaRun.toNat + 1 := decide_eq_true_iff

/-- The rotation slips modulo `W` (R144). -/
theorem huntSlip_alignOffset (cfg : Params) (l : Line) :
    (huntSlip cfg l).alignOffset.val = (l.alignOffset.val + 1) % 40 := Fin.val_add l.alignOffset 1

theorem huntSlip_slipCount {cfg : Params} {l : Line} (legal : cfg.legal = true) :
    (huntSlip cfg l).slipCount.toNat = min (l.slipCount.toNat + 1) cfg.slipLimit := by
  obtain ⟨-, -, -, -, ⟨-, small⟩, -⟩ := (Params.legal_iff _).mp legal
  exact Nat.mod_eq_of_lt (by omega)

/-- The sighting of R145 names a rotation of the window. -/
theorem commaElsewhere_iff {window : BitVec 80} {offset : Fin 40} : commaElsewhere window offset = true ↔
    ∃ r, r < 40 ∧ r ≠ offset.val ∧ isComma (alignedWord window r) = true := by
  simp [commaElsewhere]

/-- The drift check moves neither the rotation nor the count of slips. -/
theorem driftCheck_keeps (cfg : Params) (comma elsewhere : Bool) (l : Line) :
    (driftCheck cfg comma elsewhere l).alignOffset = l.alignOffset ∧
      (driftCheck cfg comma elsewhere l).slipCount = l.slipCount := by
  unfold driftCheck
  split_ifs <;> exact ⟨rfl, rfl⟩

theorem driftCheck_of_comma (cfg : Params) (elsewhere : Bool) (l : Line) :
    driftCheck cfg true elsewhere l = { l with driftRun := 0 } := rfl

theorem driftCheck_of_quiet (cfg : Params) (l : Line) : driftCheck cfg false false l = l := rfl

theorem driftCheck_of_last_sighting {cfg : Params} {l : Line} (last : cfg.lockCount ≤ l.driftRun.toNat + 1) :
    driftCheck cfg false true l = { l with lock := false, commaRun := 0, driftRun := 0 } := if_pos last

theorem driftCheck_of_sighting {cfg : Params} {l : Line} (early : l.driftRun.toNat + 1 < cfg.lockCount) :
    driftCheck cfg false true l = { l with driftRun := BitVec.ofNat 16 (l.driftRun.toNat + 1) } :=
  if_neg (Nat.not_le.mpr early)

/-! ### The tick's statements -/

/-- Settles O15: in the two hunting states the aligner step is `huntComma` or `huntSlip`. -/
theorem huntStep : Obligations.HuntStep := by
  unfold Obligations.HuntStep
  intro i w s row legal searching unlocked unspent
  have outside : s.line.linkState ≠ .reset := by
    obtain h | h := searching <;> rw [h] <;> decide
  have hunts := hunting_of_unlocked searching unlocked
  refine ⟨_, exec_lineWord_outside_reset row outside, ?_⟩
  obtain ⟨-, -, -, -, -, lock, slipCount, alignOffset, commaRun, driftRun, bitslip, -⟩ :=
    receiveIn_parts s.line.linkState w s
  rw [lock, slipCount, alignOffset, commaRun, driftRun, bitslip, alignStep_of_hunting hunts, slips, hunts]
  cases isComma w with
  | true => exact ⟨rfl, huntComma_commaRun legal unspent, huntComma_lock_iff, rfl, rfl, rfl⟩
  | false => exact ⟨rfl, rfl, unlocked, huntSlip_alignOffset _ _, huntSlip_slipCount legal, rfl⟩

/-- Settles O16: the aligner step of a locked tick is `driftCheck`, and `off` is its second sighting. (The name
`driftCheck` is the model's function.) -/
theorem driftCheck_holds : Obligations.DriftCheck := by
  unfold Obligations.DriftCheck
  intro i w s row legal outside live locked _
  refine ⟨_, exec_lineWord_outside_reset row outside, ?_⟩
  obtain ⟨-, -, -, -, -, lock, slipCount, alignOffset, commaRun, driftRun, bitslip, -⟩ :=
    receiveIn_parts s.line.linkState w s
  rw [lock, slipCount, alignOffset, commaRun, driftRun, bitslip, alignStep_of_locked locked live, slips,
    hunting_of_locked locked, ← commaElsewhere_iff]
  obtain ⟨offset, slip⟩ := driftCheck_keeps s.cfg (isComma w) (commaElsewhere s.rx.window s.line.alignOffset) s.line
  refine ⟨offset, slip, rfl, ?_⟩
  cases isComma w with
  | true => simp [driftCheck_of_comma, locked]
  | false =>
    cases commaElsewhere s.rx.window s.line.alignOffset with
    | false => simp [driftCheck_of_quiet, locked]
    | true =>
      obtain ⟨-, -, ⟨-, small⟩, -⟩ := (Params.legal_iff _).mp legal
      refine ⟨by simp, fun _ last => ?_, fun _ early => ?_, by simp⟩
      · rw [driftCheck_of_last_sighting last]
        exact ⟨rfl, rfl, rfl⟩
      · rw [driftCheck_of_sighting early]
        exact ⟨Nat.mod_eq_of_lt (by omega), locked, rfl⟩

/-! ### The channel as one number (46_endpoint.md R275) -/

/-- The bits that a channel holds and those sent over it, as one number, the first to arrive at bit 0. -/
def Channel.bits (c : Channel) (sent : List LineWord) : Nat :=
  c.line + 2 ^ (c.delay + 40) * Nat.ofDigits (2 ^ 40) (sent.map BitVec.toNat)

/-- The word that arrives is the low 40 bits, whatever is sent. -/
theorem Channel.raw_eq_bits (c : Channel) (sent : List LineWord) : c.raw = BitVec.ofNat 40 (c.bits sent) := by
  apply BitVec.eq_of_toNat_eq
  simp only [Channel.raw, Channel.bits, BitVec.toNat_ofNat, Nat.pow_add, Nat.mul_comm _ (2 ^ 40), Nat.mul_assoc,
    Nat.add_mul_mod_self_left]

/-- A tick takes these 40 bits away and no other. -/
theorem Channel.bits_push (c : Channel) (w : LineWord) (rest : List LineWord) :
    (c.push w).bits rest = c.bits (w :: rest) / 2 ^ 40 := by
  have content : c.bits (w :: rest) = c.line + 2 ^ 40 *
      (w.toNat * 2 ^ c.delay + 2 ^ (c.delay + 40) * Nat.ofDigits (2 ^ 40) (rest.map BitVec.toNat)) := by
    simp only [Channel.bits, List.map_cons, Nat.ofDigits_cons]
    ring
  rw [content, Nat.add_mul_div_left _ _ (by positivity), ← Nat.add_assoc]
  rfl

/-- The n-th raw word is bits `40 * n` to `40 * n + 39` of the channel. -/
theorem getElem?_rawWords {c : Channel} {sent : List LineWord} {n : Nat} {raw : LineWord}
    (arrives : (rawWords c sent)[n]? = some raw) : raw = BitVec.ofNat 40 (c.bits sent / 2 ^ (40 * n)) := by
  induction sent generalizing c n with
  | nil => simp [rawWords] at arrives
  | cons w rest ih =>
    cases n with
    | zero =>
      have first : c.raw = raw := by simpa [rawWords] using arrives
      rw [← first, Nat.mul_zero, Nat.pow_zero, Nat.div_one, c.raw_eq_bits (w :: rest)]
    | succ n =>
      have later : (rawWords (c.push w) rest)[n]? = some raw := by simpa [rawWords] using arrives
      rw [ih later, Channel.bits_push, Nat.div_div_eq_div_mul, ← Nat.pow_add, Nat.mul_succ, Nat.add_comm 40]

/-- The j-th word sent is the 40 bits of the channel that follow its first content and the j words before. -/
theorem Channel.bits_at_sent {c : Channel} {sent : List LineWord} {j : Nat} {w : LineWord}
    (fits : c.line < 2 ^ (c.delay + 40)) (found : sent[j]? = some w) :
    BitVec.ofNat 40 (c.bits sent / 2 ^ (c.delay + 40 + 40 * j)) = w := by
  obtain ⟨inside, rfl⟩ := List.getElem?_eq_some_iff.mp found
  have digits : ∀ d ∈ sent.map BitVec.toNat, d < 2 ^ 40 := List.forall_mem_map.mpr fun word _ => word.isLt
  apply BitVec.eq_of_toNat_eq
  calc (BitVec.ofNat 40 (c.bits sent / 2 ^ (c.delay + 40 + 40 * j))).toNat
      = c.bits sent / 2 ^ (c.delay + 40) / (2 ^ 40) ^ j % 2 ^ 40 := by
        rw [BitVec.toNat_ofNat, Nat.pow_add 2 (c.delay + 40), Nat.div_div_eq_div_mul, Nat.pow_mul]
    _ = Nat.ofDigits (2 ^ 40) (sent.map BitVec.toNat) / (2 ^ 40) ^ j % 2 ^ 40 := by
        rw [Channel.bits, Nat.add_mul_div_left _ _ (by positivity), Nat.div_eq_of_lt fits, Nat.zero_add]
    _ = Nat.ofDigits (2 ^ 40) ((sent.map BitVec.toNat).drop j) % 2 ^ 40 := by
        rw [Nat.ofDigits_div_pow_eq_ofDigits_drop j (by positivity) _ digits]
    _ = sent[j].toNat := by
        rw [List.drop_eq_getElem_cons (by simpa using inside), Nat.ofDigits_cons, Nat.add_mul_mod_self_left,
          List.getElem_map]
        exact Nat.mod_eq_of_lt sent[j].isLt

/-- Two raw words that follow each other are one window of the channel, and a rotation moves along it. -/
theorem alignedWord_ofNat (bits : Nat) {r : Nat} (small : r ≤ 40) :
    alignedWord (BitVec.ofNat 40 (bits / 2 ^ 40) ++ BitVec.ofNat 40 bits) r = BitVec.ofNat 40 (bits / 2 ^ r) := by
  apply BitVec.eq_of_getLsbD_eq
  intro k inside
  simp only [alignedWord, BitVec.getLsbD_extractLsb', BitVec.getLsbD_append, BitVec.getLsbD_ofNat,
    Nat.testBit_div_two_pow, inside, decide_true, Bool.true_and]
  by_cases low : r + k < 40
  · simp [low, Nat.add_comm k]
  · have place : r + k - 40 + 40 = r + k := by omega
    have high : r + k - 40 < 40 := by omega
    simp [low, high, place, Nat.add_comm k]

/-- Settles O59: rotation and delay add up to whole words, so that the aligned word is 40 bits of what was sent. -/
theorem wordRecovery : Obligations.WordRecovery := by
  unfold Obligations.WordRecovery
  intro c sent j older raw w fits found before now
  have place : 40 * (j + 1 + c.delay / 40) + c.delay % 40 = c.delay + 40 + 40 * j := by omega
  have next : 40 * (j + 2 + c.delay / 40) = 40 * (j + 1 + c.delay / 40) + 40 := by omega
  rw [getElem?_rawWords before, getElem?_rawWords now, next, Nat.pow_add, ← Nat.div_div_eq_div_mul,
    alignedWord_ofNat _ (Nat.mod_lt _ (by decide)).le, Nat.div_div_eq_div_mul, ← Nat.pow_add, place]
  exact Channel.bits_at_sent fits found

end Sys2Proof.Machine
end

section
/-! The LinkTrainer's statements about one tick outside RESET (42_linktrainer.md R164 to R169). The tick ends as the
trainer answers to the line domain that the aligner leaves; each state's statement is the if chain of its own rule. -/

namespace Sys2Proof.Machine

set_option Elab.async false

/-! ### The trainer's answer in a tick (42_linktrainer.md R162, R169) -/

/-- The line domain after the aligner's step in the tick that receives `w` (R162: `lock'` and `slip_count'`). -/
def alignedLine (w : LineWord) (s : State) : Line :=
  alignStep s.cfg s.line.linkState (isComma w) (commaElsewhere s.rx.window s.line.alignOffset) s.line

/-- What the trainer answers in the tick that receives `w` (R162). -/
def trainerAnswer (w : LineWord) (s : State) : Trained :=
  trainStep s.line.linkState (classHere w s) (s.putLine (alignedLine w s))

theorem alignedLine_timer (w : LineWord) (s : State) : (alignedLine w s).timer = s.line.timer :=
  (alignStep_keeps s.cfg s.line.linkState (isComma w) (commaElsewhere s.rx.window s.line.alignOffset) s.line).2.1

theorem alignedLine_errCount (w : LineWord) (s : State) : (alignedLine w s).errCount = s.line.errCount :=
  (alignStep_keeps s.cfg s.line.linkState (isComma w) (commaElsewhere s.rx.window s.line.alignOffset) s.line).2.2.1

/-- The tick that receives `w` ends in `t` with the trainer's answer `r` and the aligner's step; the events that the
rule raises stand between the word's own two. -/
structure TickEnds (w : LineWord) (s t : State) (r : Trained) : Prop where
  linkState : t.line.linkState = r.1
  timer : t.line.timer = r.2.line.timer
  errCount : t.line.errCount = r.2.line.errCount
  cause : t.regs.cause = r.2.regs.cause
  request : t.regs.linkResetReq = r.2.regs.linkResetReq
  raised : ∃ raised, r.2.events = s.events ++ raised
  events : ∀ raised, r.2.events = s.events ++ raised →
    t.events = s.events ++ violationEvents w s ++ raised ++ overflowEvents w s
  lock : t.line.lock = (alignedLine w s).lock
  slipCount : t.line.slipCount = (alignedLine w s).slipCount

theorem receiveIn_ends (w : LineWord) (s : State) :
    TickEnds w s (receiveIn s.line.linkState w s) (trainerAnswer w s) := by
  obtain ⟨linkState, timer, errCount, cause, request, lock, slipCount, -⟩ :=
    receiveIn_parts s.line.linkState w s
  obtain ⟨es, answered, events⟩ := receiveIn_events w s
  refine ⟨linkState, timer, errCount, cause, request, ⟨es, answered⟩, fun raised h => ?_, lock, slipCount⟩
  have : raised = es := List.append_cancel_left (h.symm.trans answered)
  rw [this, events]

/-- A tick whose rule raises nothing has the events of its word alone. -/
theorem TickEnds.events_of_quiet {w : LineWord} {s t : State} {r : Trained} (tick : TickEnds w s t r)
    (quiet : r.2.events = s.events) : t.events = s.events ++ violationEvents w s ++ overflowEvents w s := by
  simpa using tick.events [] (by simpa using quiet)

/-- Where the word has no event of its own, the tick's events are the rule's. -/
theorem TickEnds.events_of_uneventful {w : LineWord} {s t : State} {r : Trained} (tick : TickEnds w s t r)
    (noViolation : violationEvents w s = []) (noOverflow : overflowEvents w s = []) : t.events = r.2.events := by
  obtain ⟨raised, answered⟩ := tick.raised
  simpa [noViolation, noOverflow, answered] using tick.events raised answered

/-- The rule of the state alone, without the overrides (R164 to R168). -/
def stateRule (st : LinkState) (cls : WordClass) (s : State) : Trained :=
  match st with
  | .reset => (.reset, s)
  | .sendTraining => trainSendTraining s
  | .waitAlign => trainWaitAlign s
  | .aligned => trainAligned cls s
  | .ready => trainReady cls s
  | .error => (.error, s)

/-- With no override the state's own rule answers; `phy_ready` is no override in ERROR (R169). -/
theorem trainStep_of_calm {st : LinkState} {cls : WordClass} {s : State} (calm : s.regs.linkResetReq = false)
    (up : s.regs.phyReadyLast = true ∨ st = .error) : trainStep st cls s = stateRule st cls s := by
  have noFall : (!s.regs.phyReadyLast && st != .error) = false := by
    obtain h | h := up <;> simp [h]
  unfold trainStep
  rw [calm, noFall]
  cases st <;> rfl

theorem trainerAnswer_of_calm {w : LineWord} {s : State} {st : LinkState} (here : s.line.linkState = st)
    (calm : s.regs.linkResetReq = false) (up : s.regs.phyReadyLast = true) :
    trainerAnswer w s = stateRule st (classHere w s) (s.putLine (alignedLine w s)) := by
  subst here
  exact trainStep_of_calm calm (.inl up)

/-- No state's own rule writes the request: an override takes it (R169). -/
theorem stateRule_request (st : LinkState) (cls : WordClass) (s : State) :
    (stateRule st cls s).2.regs.linkResetReq = s.regs.linkResetReq := by
  cases st with
  | reset => rfl
  | error => rfl
  | sendTraining =>
    simp only [stateRule, trainSendTraining]
    split_ifs <;> rfl
  | waitAlign =>
    simp only [stateRule, trainWaitAlign]
    split_ifs <;> rfl
  | aligned =>
    simp only [stateRule, trainAligned]
    split_ifs <;> rfl
  | ready =>
    simp only [stateRule, trainReady]
    split_ifs <;> rfl

/-- `err_count` moves on the way into READY and in READY only (R166, R167). -/
theorem stateRule_errCount {st : LinkState} (searching : st = .sendTraining ∨ st = .waitAlign) (cls : WordClass)
    (s : State) : (stateRule st cls s).2.line.errCount = s.line.errCount := by
  obtain rfl | rfl := searching
  · simp only [stateRule, trainSendTraining]
    split_ifs <;> rfl
  · simp only [stateRule, trainWaitAlign]
    split_ifs <;> rfl

/-! ### The words of a tick that delivers or sends nothing -/

/-- A word is no code violation where the link does not count them (60_exceptions.md R300). -/
theorem violationEvents_of_uncounted {w : LineWord} {s : State}
    (uncounted : s.line.linkState ≠ .aligned ∧ s.line.linkState ≠ .ready) : violationEvents w s = [] := by
  simp [violationEvents, uncounted]

theorem violationEvents_of_clean {w : LineWord} {s : State} (clean : classHere w s ≠ .err) :
    violationEvents w s = [] := by
  simp [violationEvents, clean]

theorem violationEvents_of_err {w : LineWord} {s : State} (here : s.line.linkState = .aligned)
    (err : classHere w s = .err) : violationEvents w s = [.codeViolation] := by
  simp [violationEvents, here, err]

theorem overflowEvents_of_not_ready {w : LineWord} {s : State} (h : s.line.linkState ≠ .ready) :
    overflowEvents w s = [] := by
  simp [overflowEvents, h]

/-- Every state but READY sends IDLE (R172; 46_endpoint.md R263). -/
theorem receiveIn_sends_idle {s : State} (w : LineWord) (notReady : s.line.linkState ≠ .ready) :
    Sent s (receiveIn s.line.linkState w s) .idle s.line.scrState s.bridge.txq := by
  have sent : transmit s.line.linkState s = sendWord .idle s := if_neg notReady
  rw [receiveIn_eq, sent]
  exact ⟨rfl, rfl, rfl, rfl, by simp [sendWord_eq]⟩

/-- A hunting tick asks for a slip unless it sees a comma, and slips as it asks (41_bitaligner.md R144). -/
theorem receiveIn_slips {s : State} (w : LineWord)
    (searching : s.line.linkState = .sendTraining ∨ s.line.linkState = .waitAlign) (unlocked : s.line.lock = false) :
    ((receiveIn s.line.linkState w s).ports.bitslipRequest = true ↔ isComma w = false) ∧
      (receiveIn s.line.linkState w s).line.alignOffset.val =
        if isComma w = true then s.line.alignOffset.val else (s.line.alignOffset.val + 1) % 40 := by
  obtain ⟨-, -, -, -, -, -, -, alignOffset, -, -, bitslip, -⟩ := receiveIn_parts s.line.linkState w s
  have hunts := hunting_of_unlocked searching unlocked
  rw [alignOffset, bitslip, alignStep_of_hunting hunts, slips, hunts]
  cases isComma w with
  | true => simp [huntComma]
  | false => simp [huntSlip_alignOffset]

/-! ### SEND_TRAINING and WAIT_ALIGN (R164, R165) -/

theorem trainSendTraining_putLine (l : Line) (s : State) : trainSendTraining (s.putLine l) =
    if s.cfg.slipLimit ≤ l.slipCount.toNat then fallTo .alignExhausted (s.putLine l)
    else if s.cfg.txDwell ≤ l.timer.toNat + 1 then enter .waitAlign (s.putLine l)
    else stay .sendTraining (s.putLine l) := by
  simp only [trainSendTraining, exhausted, limitReached, decide_eq_true_eq]
  rfl

theorem trainWaitAlign_putLine (l : Line) (s : State) : trainWaitAlign (s.putLine l) =
    if l.lock = true then enter .aligned (s.putLine l)
    else if s.cfg.slipLimit ≤ l.slipCount.toNat then fallTo .alignExhausted (s.putLine l)
    else if s.cfg.alignTimeout ≤ l.timer.toNat + 1 then fallTo .trainingTimeout (s.putLine l)
    else stay .waitAlign (s.putLine l) := by
  simp only [trainWaitAlign, exhausted, limitReached, decide_eq_true_eq]
  rfl

/-- A tick of SEND_TRAINING with no override ends with the first of its rule's lines that applies. -/
theorem sendTraining_ends {w : LineWord} {s t : State} (here : s.line.linkState = .sendTraining)
    (tick : TickEnds w s t (stateRule .sendTraining (classHere w s) (s.putLine (alignedLine w s)))) :
    if s.cfg.slipLimit ≤ t.line.slipCount.toNat then
      t.line.linkState = .error ∧ t.regs.cause = 4 ∧ t.line.timer = s.line.timer ∧
        t.events = s.events ++ [.fallBack .alignExhausted]
    else if s.cfg.txDwell ≤ s.line.timer.toNat + 1 then
      t.line.linkState = .waitAlign ∧ t.regs.cause = s.regs.cause ∧ t.line.timer = 0 ∧ t.events = s.events
    else
      t.line.linkState = .sendTraining ∧ t.regs.cause = s.regs.cause ∧ t.line.timer = s.line.timer + 1 ∧
        t.events = s.events := by
  have timer := alignedLine_timer w s
  have noViolation := violationEvents_of_uncounted (w := w) (s := s) (by rw [here]; decide)
  have noOverflow : overflowEvents w s = [] := overflowEvents_of_not_ready (by rw [here]; decide)
  rw [tick.slipCount, ← timer]
  rw [stateRule, trainSendTraining_putLine] at tick
  split_ifs with spent dwelt
  · rw [if_pos spent] at tick
    exact ⟨tick.linkState, tick.cause, tick.timer, tick.events_of_uneventful noViolation noOverflow⟩
  · rw [if_neg spent, if_pos dwelt] at tick
    exact ⟨tick.linkState, tick.cause, tick.timer, tick.events_of_uneventful noViolation noOverflow⟩
  · rw [if_neg spent, if_neg dwelt] at tick
    exact ⟨tick.linkState, tick.cause, tick.timer, tick.events_of_uneventful noViolation noOverflow⟩

/-- A tick of WAIT_ALIGN with no override ends with the first of its rule's lines that applies. -/
theorem waitAlign_ends {w : LineWord} {s t : State} (here : s.line.linkState = .waitAlign)
    (tick : TickEnds w s t (stateRule .waitAlign (classHere w s) (s.putLine (alignedLine w s)))) :
    if t.line.lock = true then
      t.line.linkState = .aligned ∧ t.regs.cause = s.regs.cause ∧ t.line.timer = 0 ∧ t.events = s.events
    else if s.cfg.slipLimit ≤ t.line.slipCount.toNat then
      t.line.linkState = .error ∧ t.regs.cause = 4 ∧ t.line.timer = s.line.timer ∧
        t.events = s.events ++ [.fallBack .alignExhausted]
    else if s.cfg.alignTimeout ≤ s.line.timer.toNat + 1 then
      t.line.linkState = .error ∧ t.regs.cause = 3 ∧ t.line.timer = s.line.timer ∧
        t.events = s.events ++ [.fallBack .trainingTimeout]
    else
      t.line.linkState = .waitAlign ∧ t.regs.cause = s.regs.cause ∧ t.line.timer = s.line.timer + 1 ∧
        t.events = s.events := by
  have timer := alignedLine_timer w s
  have noViolation := violationEvents_of_uncounted (w := w) (s := s) (by rw [here]; decide)
  have noOverflow : overflowEvents w s = [] := overflowEvents_of_not_ready (by rw [here]; decide)
  rw [tick.lock, tick.slipCount, ← timer]
  rw [stateRule, trainWaitAlign_putLine] at tick
  split_ifs with locked spent late
  · rw [if_pos locked] at tick
    exact ⟨tick.linkState, tick.cause, tick.timer, tick.events_of_uneventful noViolation noOverflow⟩
  · rw [if_neg locked, if_pos spent] at tick
    exact ⟨tick.linkState, tick.cause, tick.timer, tick.events_of_uneventful noViolation noOverflow⟩
  · rw [if_neg locked, if_neg spent, if_pos late] at tick
    exact ⟨tick.linkState, tick.cause, tick.timer, tick.events_of_uneventful noViolation noOverflow⟩
  · rw [if_neg locked, if_neg spent, if_neg late] at tick
    exact ⟨tick.linkState, tick.cause, tick.timer, tick.events_of_uneventful noViolation noOverflow⟩

/-- What the rows of the two states have in common; `P` is what the state's own rule says. -/
theorem exec_training {i : Instr} {w : LineWord} {s : State} {st : LinkState} {P : State → Prop}
    (row : lineWordOf i = some w) (here : s.line.linkState = st) (searching : st = .sendTraining ∨ st = .waitAlign)
    (calm : s.regs.linkResetReq = false) (up : s.regs.phyReadyLast = true)
    (rule : ∀ t, TickEnds w s t (stateRule st (classHere w s) (s.putLine (alignedLine w s))) → P t) :
    ∃ t, exec i s = .next t ∧ Sent s t .idle s.line.scrState s.bridge.txq ∧ t.regs.linkResetReq = false ∧
      t.line.errCount = s.line.errCount ∧
      (s.line.lock = false → (t.ports.bitslipRequest = true ↔ isComma w = false) ∧
        t.line.alignOffset.val =
          if isComma w = true then s.line.alignOffset.val else (s.line.alignOffset.val + 1) % 40) ∧ P t := by
  have outside : s.line.linkState ≠ .reset ∧ s.line.linkState ≠ .ready := by
    obtain rfl | rfl := searching <;> rw [here] <;> decide
  have tick := receiveIn_ends w s
  rw [trainerAnswer_of_calm here calm up] at tick
  exact ⟨_, exec_lineWord_outside_reset row outside.1, receiveIn_sends_idle w outside.2,
    tick.request.trans ((stateRule_request _ _ _).trans calm),
    tick.errCount.trans ((stateRule_errCount searching _ _).trans (alignedLine_errCount w s)),
    receiveIn_slips w (here ▸ searching), rule _ tick⟩

/-- Settles O19: the tick ends as `trainSendTraining` answers to the line domain after the aligner. -/
theorem sendTrainingRule : Obligations.SendTrainingRule := by
  unfold Obligations.SendTrainingRule
  intro i w s row here calm up
  exact exec_training row here (.inl rfl) calm up fun _ tick => sendTraining_ends here tick

/-- Settles O20: the tick ends as `trainWaitAlign` answers to the line domain after the aligner. -/
theorem waitAlignRule : Obligations.WaitAlignRule := by
  unfold Obligations.WaitAlignRule
  intro i w s row here calm up
  exact exec_training row here (.inr rfl) calm up fun _ tick => waitAlign_ends here tick

/-! ### ALIGNED and READY (R166, R167) -/

theorem trainAligned_putLine (cls : WordClass) (l : Line) (s : State) : trainAligned cls (s.putLine l) =
    if l.lock = false then fallTo .alignmentLoss (s.putLine l)
    else if cls = .err then fallTo .confirmFail (s.putLine l)
    else if s.cfg.confirmWindow ≤ l.timer.toNat + 1 then (.ready, s.putLine { l with timer := 0, errCount := 0 })
    else stay .aligned (s.putLine l) := by
  simp only [trainAligned, limitReached, decide_eq_true_eq, Bool.not_eq_true']
  rfl

/-- The line domain with the word counted in `err_count` (R167). -/
def countedLine (cls : WordClass) (l : Line) : Line := { l with errCount := BitVec.ofNat 16 (nextErrCount cls l) }

theorem trainReady_putLine (cls : WordClass) (l : Line) (s : State) : trainReady cls (s.putLine l) =
    if l.lock = false then fallTo .alignmentLoss (s.putLine l)
    else if s.cfg.errThreshold ≤ nextErrCount cls l then fallTo .errThreshold (s.putLine (countedLine cls l))
    else (.ready, s.putLine (countedLine cls l)) := by
  simp only [trainReady, Bool.not_eq_true']
  rfl

theorem trainReady_timer (cls : WordClass) (s : State) : (trainReady cls s).2.line.timer = s.line.timer := by
  simp only [trainReady]
  split_ifs <;> rfl

/-- Below the threshold of a legal build the count does not wrap (00_scope.md R7). -/
theorem countedLine_errCount {cfg : Params} (legal : cfg.legal = true) (cls : WordClass) {l : Line}
    (tolerated : l.errCount.toNat < cfg.errThreshold) :
    (countedLine cls l).errCount.toNat = nextErrCount cls l := by
  obtain ⟨-, -, -, -, -, -, ⟨-, small⟩, -⟩ := (Params.legal_iff _).mp legal
  refine Nat.mod_eq_of_lt ?_
  unfold nextErrCount
  split_ifs <;> omega

/-- STATUS.ALIGNED is bit 2 of STATUS (10_state.md R52). -/
theorem statusValue_aligned (s : State) : (statusValue s).getLsbD 2 = statusAligned s := by
  simp only [statusValue, BitVec.getLsbD_append, bit_getLsbD]
  simp

/-- Settles O21: the tick ends as `trainAligned` answers; in ALIGNED the word's only event is a code violation. -/
theorem alignedRule : Obligations.AlignedRule := by
  unfold Obligations.AlignedRule
  intro i w s row here calm up
  refine ⟨by simp [statusValue_aligned, statusAligned, here], _,
    exec_lineWord_outside_reset row (by rw [here]; decide), receiveIn_sends_idle w (by rw [here]; decide), ?_⟩
  have tick := receiveIn_ends w s
  rw [trainerAnswer_of_calm here calm up] at tick
  refine ⟨tick.request.trans ((stateRule_request _ _ _).trans calm), ?_⟩
  have timer := alignedLine_timer w s
  have errCount := alignedLine_errCount w s
  have noOverflow : overflowEvents w s = [] := overflowEvents_of_not_ready (by rw [here]; decide)
  rw [tick.lock, ← timer, ← errCount]
  rw [stateRule, trainAligned_putLine] at tick
  split_ifs with lost err confirmed
  · rw [if_pos lost] at tick
    exact ⟨tick.linkState, tick.cause, tick.timer, tick.errCount, by simpa [noOverflow] using tick.events _ rfl⟩
  · rw [if_neg lost, if_pos err] at tick
    have violation := violationEvents_of_err here err
    exact ⟨tick.linkState, tick.cause, tick.timer, tick.errCount,
      by simpa [noOverflow, violation] using tick.events _ rfl⟩
  · have noViolation := violationEvents_of_clean err
    rw [if_neg lost, if_neg err, if_pos confirmed] at tick
    exact ⟨tick.linkState, tick.cause, tick.timer, tick.errCount,
      tick.events_of_uneventful noViolation noOverflow⟩
  · have noViolation := violationEvents_of_clean err
    rw [if_neg lost, if_neg err, if_neg confirmed] at tick
    exact ⟨tick.linkState, tick.cause, tick.timer, tick.errCount,
      tick.events_of_uneventful noViolation noOverflow⟩

/-- Settles O22: the tick ends as `trainReady` answers, and below the threshold the count does not wrap. -/
theorem readyRule : Obligations.ReadyRule := by
  unfold Obligations.ReadyRule
  intro i w s row here calm up legal tolerated
  refine ⟨_, exec_lineWord_outside_reset row (by rw [here]; decide), ?_⟩
  have tick := receiveIn_ends w s
  rw [trainerAnswer_of_calm here calm up] at tick
  have errCount := alignedLine_errCount w s
  refine ⟨tick.request.trans ((stateRule_request _ _ _).trans calm),
    tick.timer.trans ((trainReady_timer _ _).trans (alignedLine_timer w s)), ?_⟩
  have counted : (countedLine (classHere w s) (alignedLine w s)).errCount.toNat = _ :=
    countedLine_errCount legal _ (errCount ▸ tolerated)
  have next : nextErrCount (classHere w s) (alignedLine w s) =
      if classHere w s = .err then s.line.errCount.toNat + 1 else max (s.line.errCount.toNat - 1) 0 := by
    rw [nextErrCount, errCount, Nat.max_zero]
  rw [tick.lock]
  rw [stateRule, trainReady_putLine] at tick
  by_cases lost : (alignedLine w s).lock = false
  · rw [if_pos lost] at tick ⊢
    exact ⟨tick.linkState, tick.cause, tick.errCount.trans errCount, tick.events _ rfl⟩
  · rw [if_neg lost] at tick ⊢
    have count : (receiveIn s.line.linkState w s).line.errCount.toNat =
        nextErrCount (classHere w s) (alignedLine w s) := by
      rw [tick.errCount, ← counted]
      split_ifs <;> rfl
    rw [count]
    refine ⟨next, ?_⟩
    split_ifs with many
    · rw [if_pos many] at tick
      exact ⟨tick.linkState, tick.cause, tick.events _ rfl⟩
    · rw [if_neg many] at tick
      exact ⟨tick.linkState, tick.cause, tick.events_of_quiet rfl⟩

/-! ### ERROR (R168) -/

/-- The trainer and the aligner rest in ERROR, and of the other steps only those of the decoder and the encoder are
left. -/
theorem receiveIn_error {w : LineWord} {s : State} (here : s.line.linkState = .error)
    (calm : s.regs.linkResetReq = false) : receiveIn s.line.linkState w s = { s with
      line := { s.line with
        encRd := (encodeWord .idle s.line.encRd).2, decRd := (decodeWord w s.line.decRd).2, txLastIdle := true }
      ports := { s.ports with
        tx := (encodeWord .idle s.line.encRd).1, commaDetected := isComma w, bitslipRequest := false
        delayCalibrate := false }
      rx := { s.rx with lanes := (decodeWord w s.line.decRd).1 } } := by
  have frozen : alignStep s.cfg .error (isComma w) (commaElsewhere s.rx.window s.line.alignOffset) s.line = s.line :=
    alignStep_frozen rfl (.inr rfl)
  have rests : ∀ l, trainStep .error (classHere w s) (s.putLine l) = (.error, s.putLine l) :=
    fun l => trainStep_of_calm (s := s.putLine l) calm (.inr rfl)
  have events : (receiveIn s.line.linkState w s).events = s.events := by
    rw [(receiveIn_ends w s).events_of_uneventful (violationEvents_of_uncounted (by rw [here]; decide))
      (overflowEvents_of_not_ready (by rw [here]; decide)), trainerAnswer, here, rests]
    rfl
  rw [receiveIn_eq, events, here, frozen, rests]
  simp [transmit, sendWord_eq, countViolation, slips, hunting, here]

/-- Settles O17: the whole tick is `receiveIn_error`. -/
theorem errorStateHolds : Obligations.ErrorStateHolds := by
  unfold Obligations.ErrorStateHolds
  intro i w s row here calm
  have sent := receiveIn_sends_idle w (s := s) (by rw [here]; decide)
  refine ⟨_, exec_lineWord_outside_reset row (by rw [here]; decide), ?_⟩
  rw [receiveIn_error here calm] at sent ⊢
  exact ⟨here, rfl, rfl, rfl, rfl, rfl, rfl, rfl, rfl, sent, rfl, rfl, rfl, rfl⟩

/-! ### The overrides (R169) -/

/-- What a line tick outside RESET leaves in the parts that the steps other than the trainer's write. -/
theorem receiveIn_paths (w : LineWord) (s : State) :
    let st := s.line.linkState
    let delivered := if st = .ready then receiveDelivery (classHere w s) s else s
    let t := receiveIn st w s
    t.line = { alignedLine w s with
        linkState := t.line.linkState, timer := t.line.timer, errCount := t.line.errCount
        encRd := (transmit st s).line.encRd, decRd := (decodeWord w s.line.decRd).2, rxPrev := s.line.rxPrev
        scrState := (transmit st s).line.scrState, dscrState := delivered.line.dscrState
        txLastIdle := (transmit st s).line.txLastIdle } ∧
      t.bridge = { txq := (transmit st s).bridge.txq, rxq := delivered.bridge.rxq } ∧
      t.ports = { s.ports with
        tx := (transmit st s).ports.tx, commaDetected := isComma w, bitslipRequest := slips st (isComma w) s.line
        delayCalibrate := false } ∧
      t.rx = { s.rx with lanes := (decodeWord w s.line.decRd).1 } ∧ t.regs.rxOverflow = delivered.regs.rxOverflow := by
  intro st delivered t
  have h : t = receiveIn st w s := rfl
  rw [receiveIn_eq] at h
  rw [h]
  exact ⟨rfl, rfl, rfl, rfl, rfl⟩

/-- Of the registers a tick reads the bypass, the sticky overflow and the count, and the trainer's; so two states that
differ in the trainer's end a tick alike, but for what the trainer writes. -/
theorem receiveIn_putRegs {w : LineWord} {s : State} {r : Regs}
    (bypass : r.scrBypass = s.regs.scrBypass) (overflow : r.rxOverflow = s.regs.rxOverflow)
    (count : r.decodeErrorCount = s.regs.decodeErrorCount) :
    let t := receiveIn s.line.linkState w s
    let u := receiveIn s.line.linkState w (s.putRegs r)
    t.line = { u.line with
        linkState := t.line.linkState, timer := t.line.timer, errCount := t.line.errCount } ∧
      t.bridge = u.bridge ∧ t.ports = u.ports ∧ t.rx = u.rx ∧
      t.regs.decodeErrorCount = u.regs.decodeErrorCount ∧ t.regs.rxOverflow = u.regs.rxOverflow := by
  intro t u
  obtain ⟨encRd, scrState, txLastIdle, txq, tx⟩ :=
    transmit_congr (st := s.line.linkState) (s := s) (u := s.putRegs r) rfl bypass.symm rfl rfl rfl rfl
  obtain ⟨dscrState, rxq, rxOverflow⟩ :
      let delivered := fun v => if s.line.linkState = .ready then receiveDelivery (classHere w s) v else v
      (delivered s).line.dscrState = (delivered (s.putRegs r)).line.dscrState ∧
        (delivered s).bridge.rxq = (delivered (s.putRegs r)).bridge.rxq ∧
        (delivered s).regs.rxOverflow = (delivered (s.putRegs r)).regs.rxOverflow := by
    dsimp only
    split_ifs
    · exact receiveDelivery_congr rfl bypass.symm rfl rfl overflow.symm
    · exact ⟨rfl, rfl, overflow.symm⟩
  obtain ⟨lineT, bridgeT, portsT, rxT, overflowT⟩ := receiveIn_paths w s
  have paths := receiveIn_paths w (s.putRegs r)
  rw [State.putRegs_line] at paths
  obtain ⟨lineU, bridgeU, portsU, rxU, overflowU⟩ := paths
  refine ⟨lineT.trans ?_, bridgeT.trans ((congrArg₂ Bridge.mk txq rxq).trans bridgeU.symm), portsT.trans ?_,
    rxT.trans rxU.symm, ?_, overflowT.trans (rxOverflow.trans overflowU.symm)⟩
  · have aligned : alignedLine w (s.putRegs r) = alignedLine w s := rfl
    rw [lineU, aligned, encRd, scrState, txLastIdle, dscrState]
    generalize alignedLine w s = l
    rfl
  · rw [portsU, tx]
    rfl
  · rw [receiveIn_decodeErrorCount, receiveIn_decodeErrorCount, countViolation_count, countViolation_count,
      State.putRegs_regs, count]
    rfl

theorem trainStep_of_request {st : LinkState} {cls : WordClass} {s : State} (requested : s.regs.linkResetReq = true) :
    trainStep st cls s = takeHostReset s := if_pos requested

theorem trainStep_of_down {st : LinkState} {cls : WordClass} {s : State} (calm : s.regs.linkResetReq = false)
    (down : s.regs.phyReadyLast = false) (live : st ≠ .error) : trainStep st cls s = fallTo .phyDown s := by
  simp [trainStep, calm, down, live]

/-- What either override answers, before the state's own rule. -/
theorem trainerAnswer_of_override {w : LineWord} {s : State}
    (override : s.regs.linkResetReq = true ∨ s.regs.phyReadyLast = false ∧ s.line.linkState ≠ .error) :
    let r := trainerAnswer w s
    let f : FallBack := if s.regs.linkResetReq = true then .hostReset else .phyDown
    r.1 = .reset ∧ r.2.line = alignedLine w s ∧ r.2.regs.linkResetReq = false ∧ r.2.regs.cause = f.code ∧
      r.2.events = s.events ++ [.fallBack f] := by
  intro r f
  by_cases requested : s.regs.linkResetReq = true
  · have answer : r = takeHostReset (s.putLine (alignedLine w s)) := trainStep_of_request requested
    simp only [f, answer, if_pos requested]
    exact ⟨rfl, rfl, rfl, rfl, rfl⟩
  · obtain ⟨down, live⟩ := override.resolve_left requested
    have calm : s.regs.linkResetReq = false := by simpa using requested
    have answer : r = fallTo .phyDown (s.putLine (alignedLine w s)) := trainStep_of_down calm down live
    simp only [f, answer, if_neg requested]
    exact ⟨rfl, rfl, calm, rfl, rfl⟩

/-- Settles O18: the override answers for the trainer, and the other steps of the tick do not read what it reads. -/
theorem overrides : Obligations.Overrides := by
  unfold Obligations.Overrides
  intro i w s row outside override
  refine ⟨_, _, exec_lineWord_outside_reset row outside, exec_lineWord_outside_reset row outside, ?_⟩
  have tick := receiveIn_ends w s
  obtain ⟨next, answered, request, cause, raised⟩ := trainerAnswer_of_override (w := w) override
  have linkState := tick.linkState.trans next
  have timer := tick.timer.trans ((congrArg Line.timer answered).trans (alignedLine_timer w s))
  have errCount := tick.errCount.trans ((congrArg Line.errCount answered).trans (alignedLine_errCount w s))
  obtain ⟨line, rest⟩ := receiveIn_putRegs (w := w) (s := s)
    (r := { s.regs with linkResetReq := false, phyReadyLast := true }) rfl rfl rfl
  rw [linkState, timer, errCount] at line
  refine ⟨linkState, timer, errCount, tick.request.trans request, (tick.cause.trans cause).trans ?_, line,
    tick.events _ raised, rest⟩
  split_ifs <;> rfl

end Sys2Proof.Machine
end

section
/-! The RESET tick (42_linktrainer.md R163) and the time to failure (R174): a step that runs a tick is the receive path
or the RESET tick on the sampled inputs, a hunting tick without a comma is one slip, and the run from RESET is the
RESET tick with as many of these after it. -/

namespace Sys2Proof.Machine

set_option Elab.async false

/-! ### The RESET tick (R163) -/

/-- A scheduled tick samples its inputs and receives the word of its window. -/
theorem step_tick {s : State} {raw : LineWord} {phy idle : Bool} {rest : List Action} (legal : s.cfg.legal = true)
    (cause : s.regs.cause.toNat < 8) (scheduled : s.agenda = .tick raw phy idle :: rest) :
    step s = .next (receiveWord (alignedWord (raw ++ s.line.rxPrev) s.line.alignOffset.val)
      (sampleInputs raw phy idle (s.putAgenda rest))) := by
  rw [step_eq legal cause scheduled, perform_tick]
  rfl

theorem receiveWord_reset {s : State} (here : s.line.linkState = .reset) (w : LineWord) :
    receiveWord w s = resetTick s := if_pos here

theorem step_tick_reset {s : State} {raw : LineWord} {phy idle : Bool} {rest : List Action} (legal : s.cfg.legal = true)
    (cause : s.regs.cause.toNat < 8) (here : s.line.linkState = .reset)
    (scheduled : s.agenda = .tick raw phy idle :: rest) :
    step s = .next (resetTick (sampleInputs raw phy idle (s.putAgenda rest))) := by
  rw [step_tick legal cause scheduled]
  exact congrArg _ (receiveWord_reset (s := sampleInputs raw phy idle (s.putAgenda rest)) here _)

theorem step_tick_outside_reset {s : State} {raw : LineWord} {phy idle : Bool} {rest : List Action}
    (legal : s.cfg.legal = true) (cause : s.regs.cause.toNat < 8) (outside : s.line.linkState ≠ .reset)
    (scheduled : s.agenda = .tick raw phy idle :: rest) :
    step s = .next (receiveIn s.line.linkState (alignedWord (raw ++ s.line.rxPrev) s.line.alignOffset.val)
      (sampleInputs raw phy idle (s.putAgenda rest))) := by
  rw [step_tick legal cause scheduled, receiveWord]
  exact congrArg _ (if_neg outside)

/-- The IDLE word that every RESET tick sends (30_encoding.md R82). -/
theorem encodeWord_idle_neg : encodeWord .idle .neg = (0xD1B46D197C#40, .pos) := by decide +kernel

/-- The tunnel's part of a link reset reads nothing that the sampled inputs write. -/
theorem tunnelLinkReset_sampleInputs (raw : LineWord) (phy idle : Bool) (rest : List Action) (s : State) :
    let t := tunnelLinkReset (sampleInputs raw phy idle (s.putAgenda rest))
    t.bus.compOp = (tunnelLinkReset s).bus.compOp ∧ t.busLog = (tunnelLinkReset s).busLog ∧
      t.ports.txnIn = (tunnelLinkReset s).ports.txnIn := by
  obtain ⟨cfg, line, bridge, bus, regs, ports, rx, mem, agenda, events, busLog, tick⟩ := s
  obtain ⟨pktWords, pktAck, depState, depBuf, held, reqState, curTxn, pendingRead, compOp⟩ := bus
  obtain ⟨role, lanes⟩ := cfg
  cases role with
  | slave => exact ⟨rfl, rfl, rfl⟩
  | master =>
    cases reqState with
    | idle => exact ⟨rfl, rfl, rfl⟩
    | writing => cases curTxn <;> exact ⟨rfl, rfl, rfl⟩
    | reading => cases curTxn <;> exact ⟨rfl, rfl, rfl⟩

/-- Settles O26: the step is the RESET tick on the sampled inputs, as the row of any line word is. (The name
`resetTick` is the model's function.) -/
theorem resetTick_holds : Obligations.ResetTick := by
  unfold Obligations.ResetTick
  intro s raw phy idle rest legal cause scheduled here
  have ticks := step_tick_reset legal cause here scheduled
  refine ⟨fun i w row => ?_, _, ticks, ?_⟩
  · rw [exec_lineWord row, ticks]
    exact congrArg _ (receiveWord_reset (s := sampleInputs raw phy idle (s.putAgenda rest)) here w)
  · obtain ⟨compOp, busLog, txnIn⟩ := tunnelLinkReset_sampleInputs raw phy idle rest s
    rw [resetTick_eq, compOp, busLog, txnIn, encodeWord_idle_neg]
    refine ⟨?_, rfl, rfl, rfl, rfl, rfl, rfl, rfl, rfl, rfl, rfl, rfl, rfl, fun _ => rfl⟩
    cases requested : s.regs.linkResetReq <;> cases phy <;> simp [sampleInputs, requested, Line.reset]

/-! ### A hunting endpoint that sees no comma (R174) -/

/-- A RESET tick with the transport up begins the hunt. -/
theorem resetTick_searching {s : State} (legal : s.cfg.legal = true) (calm : s.regs.linkResetReq = false)
    (up : s.regs.phyReadyLast = true) : Searching (resetTick s) 0 := by
  obtain ⟨-, ⟨dwell, -⟩, -, ⟨timeout, -⟩, ⟨slips, -⟩, -⟩ := (Params.legal_iff _).mp legal
  rw [resetTick_eq]
  refine ⟨rfl, rfl, ?_, .inl ⟨?_, rfl, dwell⟩⟩
  · simp only [failureTicks]
    omega
  · simp [calm, up]

theorem Searching.hunts {s : State} {n : Nat} (h : Searching s n) :
    s.line.linkState = .sendTraining ∨ s.line.linkState = .waitAlign :=
  h.waiting.imp And.left And.left

/-- Without a comma the aligner's step of a hunting tick is a slip. -/
theorem Searching.alignedLine_eq {s : State} {n : Nat} (h : Searching s n) {w : LineWord}
    (silent : isComma w = false) : alignedLine w s = huntSlip s.cfg s.line := by
  rw [alignedLine, alignStep_of_hunting (hunting_of_unlocked h.hunts h.unlocked), silent]
  rfl

theorem Searching.slips {s : State} {n : Nat} (h : Searching s n) (legal : s.cfg.legal = true) {w : LineWord}
    (silent : isComma w = false) : (alignedLine w s).slipCount.toNat = n + 1 := by
  have early := h.early
  rw [h.alignedLine_eq silent, huntSlip_slipCount legal, h.slipped]
  simp only [failureTicks] at early
  omega

/-- The search that began in `s` has come to its `n`th tick without a comma in `t`: it goes on, or it has failed with
the cause of the limit met first. -/
def SearchedTo (s t : State) (n : Nat) : Prop :=
  (n < failureTicks s.cfg → Searching t n ∧ t.regs.cause = s.regs.cause) ∧
    (n = failureTicks s.cfg → t.line.linkState = .error ∧ t.regs.cause = failureCause s.cfg)

theorem SearchedTo.of_exhausted {s t : State} {n : Nat} (spent : s.cfg.slipLimit ≤ n)
    (failed : t.line.linkState = .error) (cause : t.regs.cause = 4) : SearchedTo s t n := by
  refine ⟨fun early => ?_, fun last => ⟨failed, cause.trans (if_pos ?_).symm⟩⟩
  · simp only [failureTicks] at early
    omega
  · simp only [failureTicks] at last
    omega

theorem SearchedTo.of_timeout {s t : State} {n : Nat} (unspent : n < s.cfg.slipLimit)
    (late : s.cfg.txDwell + s.cfg.alignTimeout ≤ n) (failed : t.line.linkState = .error)
    (cause : t.regs.cause = 3) : SearchedTo s t n := by
  refine ⟨fun early => ?_, fun last => ⟨failed, cause.trans (if_neg ?_).symm⟩⟩
  · simp only [failureTicks] at early
    omega
  · omega

theorem SearchedTo.of_searching {s t : State} {n : Nat} (unspent : n < s.cfg.slipLimit)
    (early : n < s.cfg.txDwell + s.cfg.alignTimeout) (h : n < failureTicks s.cfg → Searching t n)
    (cause : t.regs.cause = s.regs.cause) : SearchedTo s t n := by
  refine ⟨fun below => ⟨h below, cause⟩, fun last => ?_⟩
  simp only [failureTicks] at last
  omega

/-- One more tick of a timer below its limit (00_scope.md R7: the limits are numbers of 32 bits). -/
theorem timer_succ {timer : BitVec 32} {limit : Nat} (below : timer.toNat < limit) (small : limit < 2 ^ 32) :
    (timer + 1).toNat = timer.toNat + 1 := by
  simp only [BitVec.ofNat_eq_ofNat, BitVec.toNat_add, BitVec.toNat_ofNat]
  omega

/-- A hunting tick without a comma is one slip more, and it fails in the tick that meets the first of the two limits
(R174): the slips count from the RESET tick, and so does the timer in SEND_TRAINING; WAIT_ALIGN's counts from the end of
the dwell. -/
theorem Searching.tick {s : State} {n : Nat} {w : LineWord} (h : Searching s n) (legal : s.cfg.legal = true)
    (calm : s.regs.linkResetReq = false) (up : s.regs.phyReadyLast = true) (silent : isComma w = false) :
    SearchedTo s (receiveIn s.line.linkState w s) (n + 1) := by
  obtain ⟨-, ⟨-, dwellSmall⟩, -, ⟨timeout, timeoutSmall⟩, -⟩ := (Params.legal_iff _).mp legal
  have ends := receiveIn_ends w s
  have cfg : (receiveIn s.line.linkState w s).cfg = s.cfg := by rw [receiveIn_eq]
  have unlocked : (receiveIn s.line.linkState w s).line.lock = false := by
    rw [ends.lock, h.alignedLine_eq silent]
    exact h.unlocked
  have slipped : (receiveIn s.line.linkState w s).line.slipCount.toNat = n + 1 :=
    (congrArg _ ends.slipCount).trans (h.slips legal silent)
  generalize receiveIn s.line.linkState w s = t at *
  obtain ⟨here, counted, dwelling⟩ | ⟨here, counted⟩ := h.waiting
  · rw [trainerAnswer_of_calm here calm up] at ends
    have rule := sendTraining_ends here ends
    rw [slipped, counted] at rule
    split_ifs at rule with spent dwelt
    · obtain ⟨failed, cause, -⟩ := rule
      exact .of_exhausted spent failed cause
    · obtain ⟨next, cause, timer, -⟩ := rule
      refine .of_searching (by omega) (by omega) (fun early => ⟨unlocked, slipped, cfg ▸ early, .inr ⟨next, ?_⟩⟩) cause
      have restarted : t.line.timer.toNat = 0 := by rw [timer]; rfl
      rw [cfg]
      omega
    · obtain ⟨next, cause, timer, -⟩ := rule
      refine .of_searching (by omega) (by omega)
        (fun early => ⟨unlocked, slipped, cfg ▸ early, .inl ⟨next, ?_, by rw [cfg]; omega⟩⟩) cause
      rw [timer, timer_succ (by omega) dwellSmall, counted]
  · rw [trainerAnswer_of_calm here calm up] at ends
    have rule := waitAlign_ends here ends
    rw [unlocked, slipped, if_neg Bool.false_ne_true] at rule
    split_ifs at rule with spent late
    · obtain ⟨failed, cause, -⟩ := rule
      exact .of_exhausted spent failed cause
    · obtain ⟨failed, cause, -⟩ := rule
      exact .of_timeout (by omega) (by omega) failed cause
    · obtain ⟨next, cause, timer, -⟩ := rule
      refine .of_searching (by omega) (by omega) (fun early => ⟨unlocked, slipped, cfg ▸ early, .inr ⟨next, ?_⟩⟩) cause
      rw [cfg, timer, timer_succ (by omega) timeoutSmall]
      omega

/-! ### The steps of the search -/

/-- From `s` to `t` a tick was taken off the schedule, with the build left alone and no request pending. -/
structure Ticked (s t : State) (rest : List Action) : Prop where
  agenda : t.agenda = rest
  cfg : t.cfg = s.cfg
  calm : t.regs.linkResetReq = false

/-- The step of a RESET tick with the transport up. -/
theorem step_begins_search {s : State} {raw : LineWord} {idle : Bool} {rest : List Action} (legal : s.cfg.legal = true)
    (cause : s.regs.cause.toNat < 8) (calm : s.regs.linkResetReq = false) (here : s.line.linkState = .reset)
    (scheduled : s.agenda = .tick raw true idle :: rest) :
    ∃ t, step s = .next t ∧ Ticked s t rest ∧ t.regs.cause = s.regs.cause ∧ Searching t 0 := by
  have search := resetTick_searching (s := sampleInputs raw true idle (s.putAgenda rest)) legal calm rfl
  refine ⟨_, step_tick_reset legal cause here scheduled, ?_, ?_, search⟩
  · rw [resetTick_eq]
    exact ⟨rfl, rfl, rfl⟩
  · rw [resetTick_eq]
    rfl

/-- A hunting tick with the transport up and no request. -/
theorem receiveIn_searches {s : State} {n : Nat} (w : LineWord) (search : Searching s n) (legal : s.cfg.legal = true)
    (calm : s.regs.linkResetReq = false) (up : s.regs.phyReadyLast = true) :
    let t := receiveIn s.line.linkState w s
    Ticked s t s.agenda ∧ t.ports.commaDetected = isComma w ∧
      (isComma w = false →
        t.ports.bitslipRequest = true ∧ t.line.slipCount.toNat = n + 1 ∧ SearchedTo s t (n + 1)) := by
  intro t
  obtain ⟨-, -, -, -, -, -, -, -, -, -, -, comma, cfg, agenda⟩ := receiveIn_parts s.line.linkState w s
  have ends := receiveIn_ends w s
  have request : t.regs.linkResetReq = false := by
    rw [trainerAnswer_of_calm rfl calm up] at ends
    exact (ends.request.trans (stateRule_request _ _ _)).trans calm
  refine ⟨⟨agenda, cfg, request⟩, comma, fun silent => ⟨?_, ?_, search.tick legal calm up silent⟩⟩
  · exact (receiveIn_slips w search.hunts search.unlocked).1.mpr silent
  · exact (congrArg _ ends.slipCount).trans (search.slips legal silent)

/-- The step of a hunting tick with the transport up. -/
theorem step_searches {s : State} {raw : LineWord} {idle : Bool} {rest : List Action} {n : Nat}
    (legal : s.cfg.legal = true) (cause : s.regs.cause.toNat < 8) (calm : s.regs.linkResetReq = false)
    (search : Searching s n) (scheduled : s.agenda = .tick raw true idle :: rest) :
    let comma := isComma (alignedWord (raw ++ s.line.rxPrev) s.line.alignOffset.val)
    ∃ t, step s = .next t ∧ Ticked s t rest ∧ t.ports.commaDetected = comma ∧
      (comma = false → t.ports.bitslipRequest = true ∧ t.line.slipCount.toNat = n + 1 ∧ SearchedTo s t (n + 1)) := by
  intro comma
  have outside : s.line.linkState ≠ .reset := by
    obtain h | h := search.hunts <;> rw [h] <;> decide
  have sampled : Searching (sampleInputs raw true idle (s.putAgenda rest)) n :=
    ⟨search.unlocked, search.slipped, search.early, search.waiting⟩
  obtain ⟨⟨agenda, cfg, request⟩, seen, silent⟩ :=
    receiveIn_searches (alignedWord (raw ++ s.line.rxPrev) s.line.alignOffset.val) sampled legal calm rfl
  exact ⟨_, step_tick_outside_reset legal cause outside scheduled, ⟨agenda, cfg, request⟩, seen, silent⟩

/-! ### The run of the search -/

/-- One step more at the end of a run. -/
theorem run_succ {k : Nat} {s t : State} (h : Host.Core.run Sys2Proof.core k s = .next t) :
    Host.Core.run Sys2Proof.core (k + 1) s = step t := by
  induction k generalizing s with
  | zero =>
    cases h
    simp only [Host.Core.run]
    split
    · rename_i steps
      exact steps.symm
    · rename_i faults
      exact faults.symm
    · rename_i refuses
      exact refuses.symm
  | succ k ih =>
    simp only [Host.Core.run] at h ⊢
    split at h
    · exact ih h
    · cases h
    · cases h

/-- A schedule of ticks with the transport up. -/
def upTicks (inputs : List (LineWord × Bool)) : List Action := inputs.map fun x => .tick x.1 true x.2

/-- From RESET, `m + 1` ticks without a comma: the RESET tick, then `m` of the search. -/
theorem run_searches {s : State} {inputs : List (LineWord × Bool)} (legal : s.cfg.legal = true)
    (cause : s.regs.cause.toNat < 8) (calm : s.regs.linkResetReq = false) (here : s.line.linkState = .reset)
    (scheduled : s.agenda = upTicks inputs) {m : Nat} (scheduledFor : m + 1 ≤ inputs.length)
    (bounded : m ≤ failureTicks s.cfg)
    (silent : ∀ j u, 1 ≤ j → j ≤ m + 1 → Host.Core.run Sys2Proof.core j s = .next u → u.ports.commaDetected = false) :
    ∃ t, Host.Core.run Sys2Proof.core (m + 1) s = .next t ∧ Ticked s t (upTicks (inputs.drop (m + 1))) ∧
      SearchedTo s t m := by
  induction m with
  | zero =>
    obtain ⟨x, rest, rfl⟩ := List.exists_cons_of_length_pos scheduledFor
    obtain ⟨t, steps, ticked, kept, search⟩ := step_begins_search legal cause calm here scheduled
    have positive := ticked.cfg ▸ search.early
    exact ⟨t, (run_succ rfl).trans steps, ticked, fun _ => ⟨search, kept⟩, fun h => by omega⟩
  | succ m ih =>
    obtain ⟨t, ran, ticked, searched, -⟩ := ih (by omega) (by omega) fun j u hj hm => silent j u hj (by omega)
    obtain ⟨search, kept⟩ := searched (by omega)
    have next : t.agenda = .tick inputs[m + 1].1 true inputs[m + 1].2 :: upTicks (inputs.drop (m + 2)) := by
      rw [ticked.agenda, List.drop_eq_getElem_cons scheduledFor]
      rfl
    obtain ⟨u, steps, ticks, seen, slips⟩ :=
      step_searches (ticked.cfg ▸ legal) (kept ▸ cause) ticked.calm search next
    have ran' := (run_succ ran).trans steps
    obtain ⟨-, -, searched⟩ := slips (seen ▸ silent (m + 2) u (by omega) le_rfl ran')
    refine ⟨u, ran', ⟨ticks.agenda, ticks.cfg.trans ticked.cfg, ticks.calm⟩, ?_⟩
    unfold SearchedTo at searched ⊢
    rwa [ticked.cfg, kept] at searched

/-- Settles O57: the two steps of the search, and the run of them from RESET. -/
theorem failureTime : Obligations.FailureTime := by
  unfold Obligations.FailureTime
  refine ⟨?_, ?_, ?_⟩
  · intro s raw idle rest n legal cause calm search scheduled silent
    obtain ⟨t, steps, ticked, -, slips⟩ := step_searches legal cause calm search scheduled
    obtain ⟨bitslip, slipped, searched⟩ := slips silent
    exact ⟨t, steps, ticked.agenda, ticked.cfg, ticked.calm, bitslip, slipped, searched⟩
  · intro s raw idle rest legal cause calm here scheduled
    obtain ⟨t, steps, ticked, kept, search⟩ := step_begins_search legal cause calm here scheduled
    exact ⟨t, steps, ticked.agenda, ticked.cfg, ticked.calm, kept, search⟩
  · intro s inputs k legal cause calm here scheduled enough bounded silent
    cases k with
    | zero => exact ⟨s, rfl, by simp [here]; omega, by omega⟩
    | succ m =>
      obtain ⟨t, ran, -, early, last⟩ := run_searches legal cause calm here scheduled enough (by omega) silent
      refine ⟨t, ran, ⟨fun failed => ?_, fun h => (last (by omega)).1⟩, fun h => (last (by omega)).2⟩
      by_contra other
      obtain ⟨search, -⟩ := early (by omega)
      obtain h | h := search.hunts <;> rw [failed] at h <;> cases h

end Sys2Proof.Machine
end

section
/-! The self-synchronizing scrambler (43_scrambler.md R190 to R197): after `n` received bits the low `n` bits of both
LFSRs are those bits, whatever state the descrambler began in, so from bit 23 on the taps agree and undo each other. -/

namespace Sys2Proof.Machine

set_option Elab.async false

/-! ### Words as bits (00_scope.md R11) -/

@[simp] theorem length_wordBits (d : Word) : (wordBits d).length = 32 := by simp [wordBits]

theorem getD_wordBits (d : Word) (j : Nat) : (wordBits d).getD j false = d.getLsbD j := by
  by_cases h : j < 32
  · simp [wordBits, h]
  · simp [wordBits, h, BitVec.getLsbD_of_ge d j (by omega)]

theorem testBit_natOfBits (bs : List Bool) (j : Nat) : (natOfBits bs).testBit j = bs.getD j false := by
  induction bs generalizing j with
  | nil => simp [natOfBits]
  | cons b bs ih =>
    have value : natOfBits (b :: bs) = Nat.bit b (natOfBits bs) := by rw [Nat.bit_val, natOfBits, Nat.add_comm]
    cases j with
    | zero => rw [value, Nat.testBit_bit_zero, List.getD_cons_zero]
    | succ j => rw [value, Nat.testBit_bit_succ, ih, List.getD_cons_succ]

theorem getLsbD_wordOfBits {bs : List Bool} (full : bs.length = 32) (j : Nat) :
    (wordOfBits bs).getLsbD j = bs.getD j false := by
  rw [wordOfBits, BitVec.getLsbD_ofNat, testBit_natOfBits]
  by_cases h : j < 32
  · simp [h]
  · simp [h, List.getElem?_eq_none (show bs.length ≤ j by omega)]

theorem wordOfBits_wordBits (d : Word) : wordOfBits (wordBits d) = d :=
  BitVec.eq_of_getLsbD_eq fun j _ => by rw [getLsbD_wordOfBits (length_wordBits d), getD_wordBits]

theorem wordBits_wordOfBits {bs : List Bool} (full : bs.length = 32) : wordBits (wordOfBits bs) = bs := by
  refine List.ext_getElem (by simp [full]) fun j hj hj' => ?_
  rw [← List.getD_eq_getElem _ false hj, ← List.getD_eq_getElem _ false hj', getD_wordBits, getLsbD_wordOfBits full]

/-! ### Two LFSRs that shift in the same bits (43_scrambler.md R190, R191) -/

theorem getLsbD_lfsrShift (st : BitVec 23) (b : Bool) (j : Nat) :
    (lfsrShift st b).getLsbD j =
      if j < 1 then (if b then 1#1 else 0#1).getLsbD j else (st.extractLsb' 0 22).getLsbD (j - 1) :=
  BitVec.getLsbD_append

theorem getLsbD_lfsrShift_zero (st : BitVec 23) (b : Bool) : (lfsrShift st b).getLsbD 0 = b := by
  rw [getLsbD_lfsrShift]
  cases b <;> rfl

theorem getLsbD_lfsrShift_succ {j : Nat} (inside : j < 22) (st : BitVec 23) (b : Bool) :
    (lfsrShift st b).getLsbD (j + 1) = st.getLsbD j := by
  simp [getLsbD_lfsrShift, inside]

/-- The states agree in their low `n` bits: the bits last shifted in. -/
def AgreeBelow (n : Nat) (S T : BitVec 23) : Prop := ∀ j, j < n → j < 23 → S.getLsbD j = T.getLsbD j

theorem AgreeBelow.zero (S T : BitVec 23) : AgreeBelow 0 S T := fun _ h => absurd h (Nat.not_lt_zero _)

theorem AgreeBelow.shift {n : Nat} {S T : BitVec 23} (h : AgreeBelow n S T) (b : Bool) :
    AgreeBelow (n + 1) (lfsrShift S b) (lfsrShift T b) := by
  intro j hj inside
  cases j with
  | zero => rw [getLsbD_lfsrShift_zero, getLsbD_lfsrShift_zero]
  | succ j =>
    rw [getLsbD_lfsrShift_succ (by omega), getLsbD_lfsrShift_succ (by omega)]
    exact h j (by omega) (by omega)

theorem AgreeBelow.eq {n : Nat} {S T : BitVec 23} (h : AgreeBelow n S T) (full : 23 ≤ n) : S = T :=
  BitVec.eq_of_getLsbD_eq fun j inside => h j (by omega) inside

/-! ### Scrambled bits descrambled -/

@[simp] theorem length_scrambleBits (S : BitVec 23) (ds : List Bool) : (scrambleBits S ds).1.length = ds.length := by
  induction ds generalizing S with
  | nil => rfl
  | cons d ds ih => simp [scrambleBits, ih]

@[simp] theorem length_descrambleBits (T : BitVec 23) (rs : List Bool) :
    (descrambleBits T rs).1.length = rs.length := by
  induction rs generalizing T with
  | nil => rfl
  | cons r rs ih => simp [descrambleBits, ih]

theorem descrambleBits_scrambleBits (S : BitVec 23) (ds : List Bool) :
    descrambleBits S (scrambleBits S ds).1 = (ds, (scrambleBits S ds).2) := by
  induction ds generalizing S with
  | nil => rfl
  | cons d ds ih => simp [scrambleBits, descrambleBits, ih]

/-- Each received bit adds one to the bits in which the states agree. -/
theorem state_descrambleBits_agrees {n : Nat} {S T : BitVec 23} (h : AgreeBelow n S T) (ds : List Bool) :
    AgreeBelow (n + ds.length) (scrambleBits S ds).2 (descrambleBits T (scrambleBits S ds).1).2 := by
  induction ds generalizing n S T with
  | nil => exact h
  | cons d ds ih =>
    have longer := ih (h.shift (Bool.xor d (lfsrTap S)))
    rwa [Nat.add_right_comm] at longer

/-- A bit is exact once the states agree below 23, which `n` agreeing bits and `j` received ones ensure. -/
theorem getD_descrambleBits_scrambleBits {n : Nat} {S T : BitVec 23} (h : AgreeBelow n S T) (ds : List Bool) {j : Nat}
    (late : 23 ≤ n + j) : (descrambleBits T (scrambleBits S ds).1).1.getD j false = ds.getD j false := by
  induction ds generalizing n S T j with
  | nil => rfl
  | cons d ds ih =>
    cases j with
    | zero =>
      obtain rfl : S = T := h.eq late
      rw [descrambleBits_scrambleBits]
    | succ j => exact ih (h.shift (Bool.xor d (lfsrTap S))) (by omega)

/-! ### Scrambled words descrambled (43_scrambler.md R197) -/

theorem wordBits_scramble (S : BitVec 23) (d : Word) : wordBits (scramble S d).1 = (scrambleBits S (wordBits d)).1 :=
  wordBits_wordOfBits (by simp)

theorem descramble_scramble_self (S : BitVec 23) (d : Word) :
    descramble S (scramble S d).1 = (d, (scramble S d).2) := by
  rw [descramble, wordBits_scramble, descrambleBits_scrambleBits, wordOfBits_wordBits, scramble]

/-- One word is longer than the state, so the descrambler ends it in the sender's state. -/
theorem state_descramble_scramble (S T : BitVec 23) (d : Word) :
    (descramble T (scramble S d).1).2 = (scramble S d).2 := by
  rw [descramble, wordBits_scramble]
  exact ((state_descrambleBits_agrees (.zero S T) (wordBits d)).eq (by simp)).symm

theorem getLsbD_descramble_scramble (S T : BitVec 23) (d : Word) {j : Nat} (late : 23 ≤ j) :
    (descramble T (scramble S d).1).1.getLsbD j = d.getLsbD j := by
  rw [descramble, wordBits_scramble, getLsbD_wordOfBits (by simp),
    getD_descrambleBits_scrambleBits (.zero S T) (wordBits d) (by omega), getD_wordBits]

theorem descrambleAll_scrambleAll_self (S : BitVec 23) (xs : List Word) :
    descrambleAll S (scrambleAll S xs) = xs := by
  induction xs generalizing S with
  | nil => rfl
  | cons x xs ih => rw [scrambleAll, descrambleAll, descramble_scramble_self, ih]

/-- From any state only the first word can differ. -/
theorem descrambleAll_scrambleAll_cons (S T : BitVec 23) (x : Word) (xs : List Word) :
    descrambleAll T (scrambleAll S (x :: xs)) = (descramble T (scramble S x).1).1 :: xs := by
  rw [scrambleAll, descrambleAll, state_descramble_scramble, descrambleAll_scrambleAll_self]

/-- Settles O55: from any state only the first word can differ, and it below bit 23. -/
theorem descramblerSynchronises : Obligations.DescramblerSynchronises := by
  unfold Obligations.DescramblerSynchronises
  intro S T xs ys
  cases xs with
  | nil => simp [ys, scrambleAll, descrambleAll]
  | cons x xs =>
    have received : ys = (descramble T (scramble S x).1).1 :: xs := descrambleAll_scrambleAll_cons S T x xs
    refine ⟨by simp [received], fun k later => ?_, fun a y j sent got late => ?_, descrambleAll_scrambleAll_self S _⟩
    · obtain ⟨k, rfl⟩ := Nat.exists_eq_add_of_le' later
      rw [received, List.getElem?_cons_succ, List.getElem?_cons_succ]
    · rw [List.getElem?_cons_zero, Option.some_inj] at sent
      rw [received, List.getElem?_cons_zero, Option.some_inj] at got
      rw [← sent, ← got]
      exact getLsbD_descramble_scramble S T x late

end Sys2Proof.Machine
end

section
/-! The Framer (44_framer.md R206 to R219): the Packetizer's step as the entry it moves and what the end of a frame adds,
the Depacketizer's as one equation per entry, and a built frame taken as its message by five of the latter. -/

namespace Sys2Proof.Machine

set_option Elab.async false

/-! ### The Packetizer (R209) -/

theorem step_packetizer {s : State} {rest : List Action} (legal : s.cfg.legal = true) (cause : s.regs.cause.toNat < 8)
    (scheduled : s.agenda = .packetizer :: rest) : step s = .next (packetizerStep (s.putAgenda rest)) :=
  step_eq legal cause scheduled

/-- The head `e` of `pkt_words` moved to `txq`, with `es` behind it. -/
def entryQueued (e : TxEntry) (es : List TxEntry) (s : State) : State :=
  { s with bridge := { s.bridge with txq := s.bridge.txq ++ [e] }, bus := { s.bus with pktWords := es } }

theorem packetizerStep_of_room {s : State} {e : TxEntry} {es : List TxEntry} (words : s.bus.pktWords = e :: es)
    (room : s.bridge.txq.length < s.cfg.txqDepth) :
    packetizerStep s = if es.isEmpty then frameQueued (entryQueued e es s) else entryQueued e es s := by
  simp only [packetizerStep, txqRoom, room, decide_true, if_true, words]
  rfl

/-- The end of a requester's WRITE is its completion (45_bustunnel.md R237). -/
theorem frameQueued_of_write {s : State} {x : BusTxn} (acked : s.bus.pktAck = true) (current : s.bus.curTxn = some x)
    (notResponse : s.bus.compOp ≠ .respond) :
    frameQueued s =
      { s with
        bus := { s.bus with pktAck := false, curTxn := none, reqState := .idle }
        ports := { s.ports with txnIn := none }
        busLog := s.busLog ++ [.complete x 0] } := by
  simp [frameQueued, acked, finishRequest_eq, current, notResponse]

/-- The end of any other frame ends RESPOND, where the completer is there (45_bustunnel.md R242). -/
theorem frameQueued_of_unacked {s : State} (unacked : s.bus.pktAck = false) :
    frameQueued s =
      { s with bus := { s.bus with compOp := if s.bus.compOp = .respond then .idle else s.bus.compOp } } := by
  simp only [frameQueued, if_neg (Bool.eq_false_iff.mp unacked)]
  split <;> rfl

/-- Settles O32: by whether the step is enabled, and what stands behind the entry it moves. -/
theorem packetizerStepRule : Obligations.PacketizerStepRule := by
  unfold Obligations.PacketizerStepRule
  intro s rest legal cause scheduled
  rw [step_packetizer legal cause scheduled]
  refine ⟨fun disabled => ?_, fun e es words room => ?_⟩
  · exact congrArg _ (packetizerStep_of_disabled (s := s.putAgenda rest) (disabled.imp_right Nat.not_lt.mpr))
  · rw [packetizerStep_of_room (s := s.putAgenda rest) words room]
    refine ⟨fun more => ?_, fun x last acked current notResponse => ?_, fun last unacked => ?_⟩
    · rw [if_neg (by simpa using more)]
      rfl
    · subst last
      exact congrArg _ (frameQueued_of_write (s := entryQueued e [] (s.putAgenda rest)) acked current notResponse)
    · subst last
      exact congrArg _ (frameQueued_of_unacked (s := entryQueued e [] (s.putAgenda rest)) unacked)

/-! ### The Depacketizer's entries (R213 to R218) -/

/-- `FrameOk` of a header, field by field (R217). -/
theorem legalHeader_iff (hdr : Word) :
    legalHeader hdr = true ↔
      (hdr.extractLsb' 0 8 = 0x01#8 ∨ hdr.extractLsb' 0 8 = 0x02#8 ∨ hdr.extractLsb' 0 8 = 0x03#8) ∧
        hdr.extractLsb' 12 20 = 0#20 := by
  simp [legalHeader, or_assoc]

/-- SOF opens a frame, and drops one that is open (R213, R215). -/
theorem takeEntry_sof (s : State) :
    takeEntry .sof s =
      { s with
        bus := { s.bus with depState := .collect, depBuf := [] }
        regs := { s.regs with
          frameDropCount := if s.bus.depState = .collect then s.regs.frameDropCount + 1 else s.regs.frameDropCount }
        events := if s.bus.depState = .collect then s.events ++ [.frameIntegrity] else s.events } := by
  cases here : s.bus.depState <;> simp [takeEntry, here] <;> rfl

/-- Outside a frame anything but SOF is taken and forgotten. -/
theorem takeEntry_of_hunt {e : RxEntry} {s : State} (hunting : s.bus.depState = .hunt) (notSof : e ≠ .sof) :
    takeEntry e s = s := by
  cases e with
  | sof => exact absurd rfl notSof
  | data w => simp only [takeEntry, hunting]
  | err => simp only [takeEntry, hunting]

/-- An error inside a frame drops it (R213, R216). -/
theorem takeEntry_err {s : State} (collecting : s.bus.depState = .collect) :
    takeEntry .err s =
      { s with
        bus := { s.bus with depState := .hunt, depBuf := [] }
        regs := { s.regs with frameDropCount := s.regs.frameDropCount + 1 }
        events := s.events ++ [.frameIntegrity] } := by
  simp only [takeEntry, collecting]
  rfl

theorem takeEntry_data {w : Word} {s : State} (collecting : s.bus.depState = .collect) :
    takeEntry (.data w) s = collectWord w s := by
  simp only [takeEntry, collecting]

/-- One of the three words before the CRC. -/
theorem takeEntry_word {w : Word} {s : State} (collecting : s.bus.depState = .collect)
    (short : s.bus.depBuf.length < 3) :
    takeEntry (.data w) s = { s with bus := { s.bus with depBuf := s.bus.depBuf ++ [w] } } := by
  rw [takeEntry_data collecting, collectWord]
  split
  · rename_i whole
    simp [whole] at short
  · rw [setFrame, ← collecting]
    rfl

/-- The CRC word (R217, R218). -/
theorem takeEntry_crc {w hdr addr data : Word} {s : State} (collecting : s.bus.depState = .collect)
    (whole : s.bus.depBuf = [hdr, addr, data]) : takeEntry (.data w) s = endFrame hdr addr data w s := by
  rw [takeEntry_data collecting, collectWord, whole]

/-! ### The Depacketizer's step (R213, R214) -/

theorem step_depacketizer {s : State} {rest : List Action} (legal : s.cfg.legal = true)
    (cause : s.regs.cause.toNat < 8) (scheduled : s.agenda = .depacketizer :: rest) :
    step s = .next (depacketizerStep (s.putAgenda rest)) := by
  rw [step_eq legal cause scheduled, perform_depacketizer]

theorem depacketizerStep_of_disabled {s : State} (disabled : s.bus.held ≠ none ∨ s.bridge.rxq = []) :
    depacketizerStep s = s := by
  unfold depacketizerStep
  split
  · rename_i free waiting
    simp [free, waiting] at disabled
  · rfl

/-- The head of `rxq` taken out, with `q` behind it, and the schedule at `rest`. -/
def entryTaken (rest : List Action) (q : List RxEntry) (s : State) : State :=
  { s with agenda := rest, bridge := { s.bridge with rxq := q } }

theorem step_takeEntry {s : State} {rest : List Action} {e : RxEntry} {q : List RxEntry} (legal : s.cfg.legal = true)
    (cause : s.regs.cause.toNat < 8) (scheduled : s.agenda = .depacketizer :: rest) (free : s.bus.held = none)
    (waiting : s.bridge.rxq = e :: q) : step s = .next (takeEntry e (entryTaken rest q s)) := by
  have taken : dequeueRx (s.putAgenda rest) = entryTaken rest q s := by
    simp [dequeueRx, State.putAgenda, State.putBridge, entryTaken, waiting]
  rw [step_depacketizer legal cause scheduled, depacketizerStep, taken]
  simp only [State.putAgenda, free, waiting]

/-- Settles O33: by the entry, and by the words collected before it. -/
theorem depacketizerStepRule : Obligations.DepacketizerStepRule := by
  unfold Obligations.DepacketizerStepRule
  intro s rest legal cause scheduled
  refine ⟨fun disabled => ?_, fun e q free waiting => ?_⟩
  · rw [step_depacketizer legal cause scheduled]
    exact congrArg _ (depacketizerStep_of_disabled (s := s.putAgenda rest) disabled)
  · rw [step_takeEntry legal cause scheduled free waiting]
    refine ⟨fun hunting sof => ?_, fun hunting notSof => ?_, fun collecting sof => ?_, fun collecting err => ?_,
      fun w collecting word short => ?_, fun w hdr addr data collecting word whole => ?_⟩
    · simp [sof, takeEntry_sof, entryTaken, hunting]
    · exact congrArg _ (takeEntry_of_hunt (s := entryTaken rest q s) hunting notSof)
    · simp [sof, takeEntry_sof, entryTaken, collecting]
    · subst err
      exact congrArg _ (takeEntry_err (s := entryTaken rest q s) collecting)
    · subst word
      exact congrArg _ (takeEntry_word (s := entryTaken rest q s) collecting short)
    · subst word
      rw [takeEntry_crc (s := entryTaken rest q s) collecting whole, endFrame_eq]
      have fieldwise := and_congr_right' (a := w = crc32 [hdr, addr, data]) (legalHeader_iff hdr)
      exact ⟨fun ok => congrArg _ (if_pos (fieldwise.mpr ok)), fun bad => congrArg _ (if_neg (mt fieldwise.mp bad))⟩

/-! ### A built frame (R207, R219) -/

theorem decodeMsg_headerWord (mtype : Byte) (be : ByteEnable) (addr data : Word) :
    decodeMsg (headerWord mtype be) addr data = { mtype := mtype, be := be, addr := addr, data := data } := by
  obtain ⟨type, lanes, -⟩ := headerWord_fields mtype be
  rw [decodeMsg, type, lanes]

theorem legalHeader_headerWord {mtype : Byte} (message : mtype = 0x01#8 ∨ mtype = 0x02#8 ∨ mtype = 0x03#8)
    (be : ByteEnable) : legalHeader (headerWord mtype be) = true := by
  obtain ⟨type, -, reserved⟩ := headerWord_fields mtype be
  unfold headerType at type
  rw [legalHeader_iff, type]
  exact ⟨message, reserved⟩

/-- The CRC word of a built frame delivers the frame's message. -/
theorem endFrame_builtFrame {mtype : Byte} (message : mtype = 0x01#8 ∨ mtype = 0x02#8 ∨ mtype = 0x03#8)
    (be : ByteEnable) (addr data : Word) (s : State) :
    endFrame (headerWord mtype be) addr data (crc32 [headerWord mtype be, addr, data]) s =
      { s with bus := { s.bus with
          depState := .hunt, depBuf := []
          held := some { mtype := mtype, be := be, addr := addr, data := data } } } := by
  rw [endFrame_eq, if_pos ⟨rfl, legalHeader_headerWord message be⟩, decodeMsg_headerWord]

theorem step_takes_word {s : State} {rest : List Action} {w : Word} {q : List RxEntry} (legal : s.cfg.legal = true)
    (cause : s.regs.cause.toNat < 8) (scheduled : s.agenda = .depacketizer :: rest) (free : s.bus.held = none)
    (collecting : s.bus.depState = .collect) (short : s.bus.depBuf.length < 3) (waiting : s.bridge.rxq = .data w :: q) :
    step s = .next { entryTaken rest q s with bus := { s.bus with depBuf := s.bus.depBuf ++ [w] } } := by
  rw [step_takeEntry legal cause scheduled free waiting, takeEntry_word (s := entryTaken rest q s) collecting short]
  rfl

/-- The words before the CRC, taken one after another. -/
theorem run_takes_words {k : Nat} {s t : State} {ws : List Word} {rest : List Action} {q : List RxEntry}
    (ran : Host.Core.run Sys2Proof.core k s = .next t) (legal : t.cfg.legal = true) (cause : t.regs.cause.toNat < 8)
    (free : t.bus.held = none) (collecting : t.bus.depState = .collect)
    (short : t.bus.depBuf.length + ws.length ≤ 3)
    (scheduled : t.agenda = List.replicate ws.length .depacketizer ++ rest)
    (waiting : t.bridge.rxq = ws.map .data ++ q) :
    Host.Core.run Sys2Proof.core (k + ws.length) s =
      .next { entryTaken rest q t with bus := { t.bus with depBuf := t.bus.depBuf ++ ws } } := by
  induction ws generalizing k t with
  | nil =>
    obtain rfl : t.agenda = rest := scheduled
    obtain rfl : t.bridge.rxq = q := waiting
    simpa [entryTaken] using ran
  | cons w ws ih =>
    rw [List.length_cons] at short
    have took := (run_succ ran).trans (step_takes_word legal cause scheduled free collecting (by omega) waiting)
    have left := ih took legal cause free collecting (by simp; omega) rfl rfl
    rw [List.length_cons, Nat.add_comm ws.length, ← Nat.add_assoc]
    simpa [entryTaken] using left

/-- Settles O34: SOF opens the frame whatever stood before it, three words are collected, and the CRC word is right. -/
theorem frameBecomesMessage : Obligations.FrameBecomesMessage := by
  unfold Obligations.FrameBecomesMessage
  intro s mtype be addr data q legal cause message free scheduled waiting
  have entries : s.bridge.rxq =
      .sof :: ([headerWord mtype be, addr, data].map .data ++ .data (crc32 [headerWord mtype be, addr, data]) :: q) :=
    waiting
  have opened := (run_succ (k := 0) (s := s) rfl).trans (step_takeEntry legal cause scheduled free entries)
  rw [takeEntry_sof] at opened
  have collected := run_takes_words (rest := [.depacketizer]) opened legal cause free rfl le_rfl rfl rfl
  have delivered := (run_succ collected).trans (step_takeEntry legal cause rfl free rfl)
  rw [takeEntry_crc rfl rfl, endFrame_builtFrame message] at delivered
  exact ⟨_, delivered, rfl⟩

end Sys2Proof.Machine
end

section
/-! The completer's memory (45_bustunnel.md R247; 30_encoding.md R89): the bytes a write leaves at its own address and at
any other, and the word they make. -/

namespace Sys2Proof.Machine

set_option Elab.async false

/-! ### Words as bytes (20_memory.md R63) -/

theorem word_eq_of_bytes {x y : Word} (bytes : ∀ k, k < 4 → byteOf x k = byteOf y k) : x = y := by
  refine BitVec.eq_of_getLsbD_eq fun i inWord => ?_
  have bit := congrArg (fun b => b.getLsbD (i % 8)) (bytes (i / 8) (by omega))
  simpa [byteOf, Nat.mod_lt, Nat.div_add_mod] using bit

theorem byteOf_memRead (m : List Host.Cell) (addr : Word) {k : Nat} (lane : k < 4) :
    byteOf (memRead m addr) k = Memory.read m (byteAddress addr k) := by
  obtain ⟨lane0, lane1, lane2, lane3⟩ := byteOf_join (Memory.read m (byteAddress addr 0))
    (Memory.read m (byteAddress addr 1)) (Memory.read m (byteAddress addr 2)) (Memory.read m (byteAddress addr 3))
  interval_cases k <;> assumption

theorem byteOf_byteMask (be : ByteEnable) {k : Nat} (lane : k < 4) :
    byteOf (byteMask be) k = if be.getLsbD k = true then 0xFF#8 else 0x00#8 := by
  revert be
  interval_cases k <;> decide

/-! ### The bytes of a write -/

theorem byteAddress_inj {a b : Word} {i j : Nat} (hi : i < 4) (hj : j < 4) (same : byteAddress a i = byteAddress b j) :
    a = b ∧ i = j := by
  unfold byteAddress at same
  exact ⟨BitVec.eq_of_toNat_eq (by omega), by omega⟩

/-- A write leaves the data in the bytes its byte-enable selects, and what stood there in the others. -/
theorem read_memWrite {m : List Host.Cell} (wf : Memory.wf m = true) (addr : Word) (be : ByteEnable) (data : Word)
    {k : Nat} (lane : k < 4) :
    Memory.read (memWrite m addr be data) (byteAddress addr k) =
      if be.getLsbD k = true then byteOf data k else Memory.read m (byteAddress addr k) := by
  have wf0 := wf_writeLane (addr := addr) (be := be) (data := data) (i := 0) wf
  have wf1 := wf_writeLane (addr := addr) (be := be) (data := data) (i := 1) wf0
  have wf2 := wf_writeLane (addr := addr) (be := be) (data := data) (i := 2) wf1
  simp only [memWrite, List.foldl]
  rw [read_writeLane wf2, read_writeLane wf1, read_writeLane wf0, read_writeLane wf]
  interval_cases k <;> simp [byteAddress]

theorem read_memWrite_elsewhere {m : List Host.Cell} (wf : Memory.wf m = true) {a b : Word} (other : b ≠ a)
    (be : ByteEnable) (data : Word) {k : Nat} (lane : k < 4) :
    Memory.read (memWrite m a be data) (byteAddress b k) = Memory.read m (byteAddress b k) := by
  by_contra changed
  obtain ⟨i, hi, -, place, -⟩ := memWrite_changed_byte wf changed
  exact other (byteAddress_inj lane hi place).1

theorem and_or_byteMask_lane (selected : Prop) [Decidable selected] (old new : Byte) :
    (old &&& ~~~(if selected then 0xFF#8 else 0x00#8)) ||| (new &&& if selected then 0xFF#8 else 0x00#8) =
      if selected then new else old := by
  have full : 0xFF#8 = BitVec.allOnes 8 := rfl
  rw [full]
  split
  · rw [BitVec.not_allOnes, BitVec.and_zero, BitVec.zero_or, BitVec.and_allOnes]
  · rw [BitVec.not_zero, BitVec.and_zero, BitVec.or_zero, BitVec.and_allOnes]

/-- Settles O56: byte by byte, and in each byte by whether the byte-enable selects it. -/
theorem writeAppliesByteMask : Obligations.WriteAppliesByteMask := by
  unfold Obligations.WriteAppliesByteMask
  intro m a b be d wf
  refine ⟨word_eq_of_bytes fun k lane => ?_, fun other => word_eq_of_bytes fun k lane => ?_, wf_memWrite wf,
    fun k lane => byteOf_byteMask be lane⟩
  · have masked : byteOf ((memRead m a &&& ~~~byteMask be) ||| (d &&& byteMask be)) k =
        (byteOf (memRead m a) k &&& ~~~byteOf (byteMask be) k) ||| (byteOf d k &&& byteOf (byteMask be) k) := by
      unfold byteOf
      ext i hi
      have inWord : 8 * k + i < 32 := by omega
      simp [inWord]
    rw [masked, byteOf_byteMask be lane, byteOf_memRead _ _ lane, byteOf_memRead _ _ lane, read_memWrite wf _ _ _ lane,
      and_or_byteMask_lane]
  · rw [byteOf_memRead _ _ lane, byteOf_memRead _ _ lane, read_memWrite_elsewhere wf other _ _ lane]

end Sys2Proof.Machine
end

section
/-! The BusTunnel's operations (45_bustunnel.md R236 to R242): one equation for each case of a message taken, a transaction
offered and a local-bus cycle ended, and the statements about these. -/

namespace Sys2Proof.Machine

set_option Elab.async false

/-! ### A message offered to the tunnel (R239, R241, R243) -/

theorem completerFree_iff (s : State) : completerFree s = true ↔ s.bus.compOp = .idle ∧ s.bus.pktWords = [] := by
  simp [completerFree]

theorem answersPending_iff (m : Message) (s : State) :
    answersPending m s = true ↔
      m.mtype = typeResponse ∧ s.bus.reqState = .reading ∧ s.bus.pendingRead = some m.addr := by
  simp [answersPending, and_assoc]

theorem holdMsg_of_held {m : Message} {s : State} (held : s.bus.held = some m) : holdMsg m s = s := by
  rw [holdMsg, ← held]
  rfl

theorem tunnelReceive_requester {m : Message} {s : State} (role : s.cfg.role = .master) :
    tunnelReceive m s = requesterReceive m (holdMsg m s) := by
  simp only [tunnelReceive, role]

theorem tunnelReceive_completer {m : Message} {s : State} (role : s.cfg.role = .slave)
    (free : s.bus.compOp = .idle) (sent : s.bus.pktWords = []) :
    tunnelReceive m s = completerReceive m (holdMsg m s) := by
  simp only [tunnelReceive, role, (completerFree_iff s).mpr ⟨free, sent⟩, if_true]

theorem tunnelReceive_busy {m : Message} {s : State} (role : s.cfg.role = .slave)
    (busy : s.bus.compOp ≠ .idle ∨ s.bus.pktWords ≠ []) : tunnelReceive m s = holdMsg m s := by
  have notFree : ¬ completerFree s = true := by
    rw [completerFree_iff]
    tauto
  simp only [tunnelReceive, role, if_neg notFree]

/-- A message already in `held` or put there by its row: the tunnel does the same. -/
theorem tunnelReceive_holdMsg (m : Message) (s : State) : tunnelReceive m (holdMsg m s) = tunnelReceive m s := rfl

theorem requesterReceive_answer {m : Message} {s : State} {x : BusTxn} (answers : answersPending m s = true)
    (current : s.bus.curTxn = some x) :
    requesterReceive m s =
      { s with
        bus := { s.bus with held := none, curTxn := none, pendingRead := none, reqState := .idle }
        ports := { s.ports with txnIn := none }
        busLog := s.busLog ++ [.complete x m.data] } := by
  simp [requesterReceive, answers, finishRequest_eq, clearHeld, clearPending, State.putBus, current]

theorem requesterReceive_other {m : Message} {s : State} (other : ¬ answersPending m s = true) :
    requesterReceive m s =
      { s with bus := { s.bus with held := none }, events := s.events ++ [.unmatched m] } := by
  rw [requesterReceive, if_neg other]
  rfl

theorem completerReceive_write {m : Message} (write : m.mtype = typeWrite) (s : State) :
    completerReceive m s =
      { s with
        bus := { s.bus with held := none, compOp := .busWrite m.addr m.data m.be }
        busLog := s.busLog ++ [.memWrite m.addr m.be m.data] } := by
  rw [completerReceive, if_pos write]
  rfl

theorem completerReceive_read {m : Message} (read : m.mtype = typeRead) (s : State) :
    completerReceive m s =
      { s with
        bus := { s.bus with held := none, compOp := .busRead m.addr m.be false }
        busLog := s.busLog ++ [.memRead m.addr m.be] } := by
  rw [completerReceive, if_neg (by rw [read]; decide), if_pos read]
  rfl

theorem completerReceive_other {m : Message} (notWrite : m.mtype ≠ typeWrite) (notRead : m.mtype ≠ typeRead)
    (s : State) :
    completerReceive m s =
      { s with bus := { s.bus with held := none }, events := s.events ++ [.unmatched m] } := by
  rw [completerReceive, if_neg notWrite, if_neg notRead]
  rfl

/-- Settles O28: by whether the message answers the pending read. -/
theorem requesterReceives : Obligations.RequesterReceives := by
  unfold Obligations.RequesterReceives
  intro i m s row held role
  rw [exec_message row, tunnelReceive_requester role, holdMsg_of_held held]
  refine ⟨fun x response reading pending current => ?_, fun other => ?_⟩
  · exact congrArg _ (requesterReceive_answer ((answersPending_iff m s).mpr ⟨response, reading, pending⟩) current)
  · exact congrArg _ (requesterReceive_other (mt (answersPending_iff m s).mp other))

/-- Settles O29: by the TYPE of the message. -/
theorem completerReceives : Obligations.CompleterReceives := by
  unfold Obligations.CompleterReceives
  intro i m s row held role free sent
  rw [exec_message row, tunnelReceive_completer role free sent, holdMsg_of_held held]
  refine ⟨fun write => ?_, fun read => ?_, fun response => ?_⟩
  · exact congrArg _ (completerReceive_write write s)
  · exact congrArg _ (completerReceive_read read s)
  · exact congrArg _ (completerReceive_other (by rw [response]; decide) (by rw [response]; decide) s)

/-- Settles O30: the tunnel puts the message it is offered in `held` before it looks at it. -/
theorem busyCompleterHolds : Obligations.BusyCompleterHolds := by
  unfold Obligations.BusyCompleterHolds
  intro i m s row
  rw [exec_message row, exec_message row]
  refine ⟨congrArg _ (tunnelReceive_holdMsg m s).symm, fun role busy => ?_⟩
  exact congrArg _ (tunnelReceive_busy role busy)

/-! ### A transaction offered to the requester (R236 to R238) -/

theorem requesterFree_iff (s : State) :
    requesterFree s = true ↔
      s.cfg.role = .master ∧ s.bus.reqState = .idle ∧ s.bus.pktWords = [] ∧ s.line.linkState = .ready := by
  simp [requesterFree, and_assoc]

theorem presentTxn_of_presented {txn x : BusTxn} {s : State} (presented : s.ports.txnIn = some x) :
    presentTxn txn s = s := by
  simp only [presentTxn, presented]

theorem offerTxn_accepts {accept : BusTxn → State → State} {txn : BusTxn} {s : State}
    (free : requesterFree s = true) (presented : s.ports.txnIn = some txn) :
    offerTxn accept txn s = accept txn s := by
  rw [offerTxn_eq, presentTxn_of_presented presented, if_pos ⟨free, presented⟩]

/-- Where R236 does not hold, or the bus presents another transaction, the one offered waits. -/
theorem offerTxn_waits {accept : BusTxn → State → State} {txn : BusTxn} {s : State}
    (waits : ¬ requesterFree s = true ∨ ∃ x, s.ports.txnIn = some x ∧ x ≠ txn) :
    offerTxn accept txn s = presentTxn txn s := by
  rw [offerTxn_eq, if_neg]
  rintro ⟨free, offered⟩
  obtain notFree | ⟨x, presented, other⟩ := waits
  · exact notFree free
  · rw [presentTxn_of_presented presented, presented] at offered
    exact other (Option.some.inj offered)

/-- A transaction that its row presents is offered as one that was there. -/
theorem offerTxn_presents {accept : BusTxn → State → State} {txn : BusTxn} {s : State} (vacant : s.ports.txnIn = none) :
    offerTxn accept txn s = offerTxn accept txn { s with ports := { s.ports with txnIn := some txn } } := by
  have presents : presentTxn txn s = { s with ports := { s.ports with txnIn := some txn } } := by
    rw [presentTxn_eq, vacant]
    rfl
  have again : presentTxn txn (presentTxn txn s) = presentTxn txn s :=
    presentTxn_of_presented (x := txn) (by rw [presents])
  rw [← presents]
  simp only [offerTxn, again]

/-- The two rows of a transaction, in one equation. -/
theorem exec_txn (we : Bool) (addr data : Word) (be : ByteEnable) (s : State) :
    exec (if we = true then .txnWr addr data be else .txnRd addr data be) s =
      .next (offerTxn (if we = true then acceptWrite else acceptRead)
        { we := we, addr := addr, data := data, be := be } s) := by
  cases we <;> rfl

/-- Settles O43: by what the bus presents, and by the conditions of R236. -/
theorem transactionWaits : Obligations.TransactionWaits := by
  unfold Obligations.TransactionWaits
  intro addr data be we s
  rw [exec_txn, exec_txn]
  refine ⟨fun vacant => congrArg _ (offerTxn_presents vacant), fun waits => ?_⟩
  rw [offerTxn_waits, presentTxn_eq]
  rw [requesterFree_iff]
  tauto

/-! ### The end of a local-bus cycle (R242) -/

theorem step_busDone {s : State} {v : Option Word} {rest : List Action} (legal : s.cfg.legal = true)
    (cause : s.regs.cause.toNat < 8) (scheduled : s.agenda = .busDone v :: rest) :
    step s = .next (completerBusDone v (s.putAgenda rest)) :=
  step_eq legal cause scheduled

theorem completerBusDone_write {addr data : Word} {be : ByteEnable} {s : State} (v : Option Word)
    (cycle : s.bus.compOp = .busWrite addr data be) :
    completerBusDone v s =
      { s with mem := memWrite s.mem addr be data, bus := { s.bus with compOp := .idle } } := by
  simp only [completerBusDone, cycle]
  rfl

theorem completerBusDone_read {addr : Word} {be : ByteEnable} {stale : Bool} {s : State} (v : Option Word)
    (cycle : s.bus.compOp = .busRead addr be stale) :
    completerBusDone v s = finishRead addr be stale (v.getD (memRead s.mem addr)) s := by
  simp only [completerBusDone, cycle]

theorem completerBusDone_of_no_cycle {s : State} (v : Option Word)
    (noCycle : s.bus.compOp = .idle ∨ s.bus.compOp = .respond) : completerBusDone v s = s := by
  obtain noCycle | noCycle := noCycle <;> simp only [completerBusDone, noCycle]

theorem finishRead_responds {addr : Word} {be : ByteEnable} {stale : Bool} (value : Word) {s : State}
    (wanted : stale = false ∧ s.line.linkState = .ready) :
    finishRead addr be stale value s =
      { s with bus := { s.bus with
          pktWords := buildFrame typeResponse be addr value, pktAck := false, compOp := .respond } } := by
  rw [finishRead, if_pos wanted]
  rfl

theorem finishRead_drops {addr : Word} {be : ByteEnable} {stale : Bool} (value : Word) {s : State}
    (unwanted : ¬(stale = false ∧ s.line.linkState = .ready)) :
    finishRead addr be stale value s = { s with bus := { s.bus with compOp := .idle } } := by
  rw [finishRead, if_neg unwanted]
  rfl

/-- Settles O35: by the cycle that is outstanding, and a read by whether its value is still wanted. -/
theorem completerBusDoneRule : Obligations.CompleterBusDoneRule := by
  unfold Obligations.CompleterBusDoneRule
  intro s v rest legal cause scheduled
  rw [step_busDone legal cause scheduled]
  refine ⟨fun a d be cycle => ?_, fun a be stale cycle => ?_, fun noCycle => ?_⟩
  · exact congrArg _ (completerBusDone_write (s := s.putAgenda rest) v cycle)
  · rw [completerBusDone_read (s := s.putAgenda rest) v cycle]
    exact ⟨fun wanted => congrArg _ (finishRead_responds (s := s.putAgenda rest) _ wanted),
      fun unwanted => congrArg _ (finishRead_drops (s := s.putAgenda rest) _ unwanted)⟩
  · exact congrArg _ (completerBusDone_of_no_cycle (s := s.putAgenda rest) v noCycle)

end Sys2Proof.Machine
end

section
/-! The tunnel's part of a link reset (45_bustunnel.md R244): a transaction under way is completed by the RESET tick, one
still waiting and the completer's cycle are not. With it the whole life of a write at the requester (R237). -/

namespace Sys2Proof.Machine

set_option Elab.async false

/-! ### The link reset by role and state (R244) -/

theorem tunnelLinkReset_completer {s : State} (role : s.cfg.role = .slave) :
    tunnelLinkReset s = { s with bus := { s.bus with compOp := s.bus.compOp.linkReset } } := by
  simp only [tunnelLinkReset, role]
  rfl

theorem tunnelLinkReset_idle {s : State} (role : s.cfg.role = .master) (idle : s.bus.reqState = .idle) :
    tunnelLinkReset s = { s with bus := { s.bus with curTxn := none, pendingRead := none } } := by
  simp only [tunnelLinkReset, role, requesterLinkReset, idle]
  rw [← idle]
  rfl

theorem tunnelLinkReset_writing {s : State} (role : s.cfg.role = .master) (writing : s.bus.reqState = .writing) :
    tunnelLinkReset s = clearPending (finishRequest 0 s) := by
  simp only [tunnelLinkReset, role, requesterLinkReset, writing]

theorem tunnelLinkReset_reading {s : State} (role : s.cfg.role = .master) (reading : s.bus.reqState = .reading) :
    tunnelLinkReset s = clearPending (finishRequest s.cfg.linkDownReadValue s) := by
  simp only [tunnelLinkReset, role, requesterLinkReset, reading]

/-- A completion as its bus sees it, in the log and on the port. -/
theorem clearPending_finishRequest_signals {s : State} {x : BusTxn} (value : Word) (current : s.bus.curTxn = some x) :
    (clearPending (finishRequest value s)).busLog = s.busLog ++ [.complete x value] ∧
      (clearPending (finishRequest value s)).ports.txnIn = none := by
  simp [clearPending, finishRequest_eq, State.putBus, current]

/-- What a step that is a RESET tick leaves of the tunnel, with the inputs sampled before it out of the way. -/
theorem step_tick_reset_tunnel {s : State} {raw : LineWord} {phy idle : Bool} {rest : List Action}
    (legal : s.cfg.legal = true) (cause : s.regs.cause.toNat < 8) (here : s.line.linkState = .reset)
    (scheduled : s.agenda = .tick raw phy idle :: rest) :
    ∃ t, step s = .next t ∧ t.bus = { Bus.reset with compOp := (tunnelLinkReset s).bus.compOp } ∧
      t.busLog = (tunnelLinkReset s).busLog ∧ t.ports.txnIn = (tunnelLinkReset s).ports.txnIn ∧
      t.bridge = Bridge.reset := by
  refine ⟨_, step_tick_reset legal cause here scheduled, ?_⟩
  obtain ⟨compOp, busLog, txnIn⟩ := tunnelLinkReset_sampleInputs raw phy idle rest s
  rw [resetTick_eq, compOp, busLog, txnIn]
  exact ⟨rfl, rfl, rfl, rfl⟩

/-- Settles O27: the RESET tick leaves the bus domain at its reset values, and the rest by role and by what the requester
or the completer had under way. -/
theorem linkResetSettlesTunnel : Obligations.LinkResetSettlesTunnel := by
  unfold Obligations.LinkResetSettlesTunnel
  intro s raw phy idle rest legal cause scheduled here
  obtain ⟨t, ticks, bus, busLog, txnIn, bridge⟩ := step_tick_reset_tunnel legal cause here scheduled
  refine ⟨t, ticks, ?_⟩
  rw [bus, bridge, busLog, txnIn]
  refine ⟨fun role => ⟨rfl, rfl, rfl, fun waiting => ?_, fun x writing current => ?_,
    fun x reading current => ?_⟩, fun role => ?_, rfl, rfl, rfl, rfl, rfl, rfl, rfl⟩
  · rw [tunnelLinkReset_idle role waiting]
    exact ⟨rfl, rfl⟩
  · rw [tunnelLinkReset_writing role writing]
    exact clearPending_finishRequest_signals 0 current
  · rw [tunnelLinkReset_reading role reading]
    exact clearPending_finishRequest_signals _ current
  · rw [tunnelLinkReset_completer role]
    refine ⟨rfl, rfl, fun op => ?_, fun op => ?_, fun a be st op => ?_, fun a d be op => ?_⟩ <;> simp only [op] <;> rfl

/-! ### A write at the requester (R237) -/

/-- Settles O41: R236 holds, so the row's transaction is accepted; the Packetizer's step ends the frame; a link reset
completes it unsent. -/
theorem requesterAcceptsWrite : Obligations.RequesterAcceptsWrite := by
  unfold Obligations.RequesterAcceptsWrite
  refine ⟨fun addr data be s role idle sent ready presented => ?accepts,
    fun s rest e x legal role cause coherent scheduled writing current last room => ?completes,
    fun s raw phy idle rest x legal cause role scheduled here writing current => ?linkReset⟩
  case accepts =>
    exact congrArg _ (offerTxn_accepts ((requesterFree_iff s).mpr ⟨role, idle, sent, ready⟩) presented)
  case completes =>
    simp only [Coherent, role] at coherent
    obtain ⟨-, ends⟩ := packetizerStepRule s rest legal cause scheduled
    obtain ⟨-, completes, -⟩ := ends e [] last room
    have notResponse : s.bus.compOp ≠ .respond := by simp [coherent.noCompleter]
    exact ⟨_, completes x rfl (coherent.ack.mpr writing) current notResponse, rfl, rfl, rfl, rfl, rfl⟩
  case linkReset =>
    obtain ⟨t, ticks, requester, -, pktWords, -, txq, -⟩ :=
      linkResetSettlesTunnel s raw phy idle rest legal cause scheduled here
    obtain ⟨reqState, -, -, -, completed, -⟩ := requester role
    exact ⟨t, ticks, (completed x writing current).1, reqState, pktWords, txq⟩

end Sys2Proof.Machine
end

section
/-! What the tunnel's state goes through (45_bustunnel.md R235 to R244): one inversion lemma names the operation by which an
action moves it, with every other action as one that leaves it alone. From it, that every step keeps it coherent with the
role, and that a pending read ends only in its RESPONSE or a reset. -/

namespace Sys2Proof.Machine

set_option Elab.async false

/-! ### How an action moves the tunnel's state -/

/-- From `s` to `t` the tunnel's state, the build it fits and the bus's transaction are as they were; what the Depacketizer
writes may differ. -/
structure TunnelKept (s t : State) : Prop where
  cfg : t.cfg = s.cfg
  bus : ∃ st buf held, t.bus = { s.bus with depState := st, depBuf := buf, held := held }
  presented : t.ports.txnIn = s.ports.txnIn

theorem TunnelKept.of_same {s t : State} (cfg : t.cfg = s.cfg) (bus : t.bus = s.bus)
    (presented : t.ports.txnIn = s.ports.txnIn) : TunnelKept s t :=
  ⟨cfg, ⟨_, _, _, bus⟩, presented⟩

/-- The operations by which an action moves the tunnel's state, each with what enables it. -/
inductive TunnelMove (s : State) : Action → State → Prop
  | kept {a : Action} {t : State} (kept : TunnelKept s t) : TunnelMove s a t
  | powerUp : TunnelMove s .rst (powerUpReset s)
  | linkReset {a : Action} {u : State} (here : s.line.linkState = .reset) (sampled : TunnelKept s u) :
    TunnelMove s a (resetTick u)
  | packetizer {a : Action} : TunnelMove s a (packetizerStep s)
  | acceptWrite {a : Action} {txn : BusTxn} (free : requesterFree s = true) (presented : s.ports.txnIn = some txn)
    (write : txn.we = true) : TunnelMove s a (acceptWrite txn s)
  | acceptRead {a : Action} {txn : BusTxn} (free : requesterFree s = true) (presented : s.ports.txnIn = some txn)
    (read : txn.we = false) : TunnelMove s a (acceptRead txn s)
  | receive {a : Action} {m : Message} (take : takeable s = some m) : TunnelMove s a (tunnelReceive m s)
  | busDone {a : Action} (v : Option Word) : TunnelMove s a (completerBusDone v s)
  | present {a : Action} (txn : BusTxn) : TunnelMove s a (presentTxn txn s)

theorem acceptable_eq_some {s : State} {txn : BusTxn} (h : acceptable s = some txn) :
    requesterFree s = true ∧ s.ports.txnIn = some txn := by
  unfold acceptable at h
  split at h
  · exact ⟨‹_›, h⟩
  · cases h

theorem depacketizerStep_tunnelKept (s : State) : TunnelKept s (depacketizerStep s) := by
  unfold depacketizerStep
  split
  · rw [takeEntry_keeps]
    exact ⟨rfl, ⟨_, _, _, rfl⟩, rfl⟩
  · exact .of_same rfl rfl rfl

/-- A tick outside RESET is no concern of the tunnel. -/
theorem receiveIn_tunnelKept (st : LinkState) (w : LineWord) (s : State) : TunnelKept s (receiveIn st w s) := by
  rw [receiveIn_eq]
  exact .of_same rfl rfl rfl

theorem perform_tunnelMove {a : Action} {s t : State} (hp : perform a s = .next t) : TunnelMove s a t := by
  have left := perform_next hp
  cases a with
  | rst =>
    obtain rfl := left
    exact .powerUp
  | tick raw phy idle =>
    obtain rfl := left
    have sampled : TunnelKept s (sampleInputs raw phy idle s) := .of_same rfl rfl rfl
    by_cases here : s.line.linkState = .reset
    · rw [receiveWord_reset (s := sampleInputs raw phy idle s) here]
      exact .linkReset here sampled
    · have outside : receiveWord (fetchedWord (sampleInputs raw phy idle s)) (sampleInputs raw phy idle s) =
          receiveIn s.line.linkState (fetchedWord (sampleInputs raw phy idle s)) (sampleInputs raw phy idle s) :=
        if_neg here
      rw [outside]
      obtain ⟨cfg, bus, presented⟩ := receiveIn_tunnelKept s.line.linkState
        (fetchedWord (sampleInputs raw phy idle s)) (sampleInputs raw phy idle s)
      exact .kept ⟨cfg, bus, presented⟩
  | packetizer =>
    obtain rfl := left
    exact .packetizer
  | accept =>
    rw [perform_accept] at hp
    cases hacc : acceptable s with
    | none =>
      obtain rfl : s = t := by simpa [hacc] using hp
      exact .kept (.of_same rfl rfl rfl)
    | some txn =>
      obtain ⟨free, presented⟩ := acceptable_eq_some hacc
      cases we : txn.we with
      | true =>
        obtain rfl : acceptWrite txn s = t := by simpa [hacc, we] using hp
        exact .acceptWrite free presented we
      | false =>
        obtain rfl : acceptRead txn s = t := by simpa [hacc, we] using hp
        exact .acceptRead free presented we
  | depacketizer =>
    obtain rfl := left
    exact .kept (depacketizerStep_tunnelKept s)
  | receive =>
    rw [perform_receive] at hp
    cases take : takeable s with
    | none =>
      obtain rfl : s = t := by simpa [take] using hp
      exact .kept (.of_same rfl rfl rfl)
    | some m =>
      obtain rfl : tunnelReceive m s = t := by simpa [take] using hp
      exact .receive take
  | busDone v =>
    obtain rfl := left
    exact .busDone v
  | present txn =>
    obtain rfl := left
    exact .present txn
  | hostRead off =>
    obtain ⟨v, rfl⟩ := left
    exact .kept (.of_same rfl rfl rfl)
  | hostWrite off val =>
    obtain ⟨r, rfl, -⟩ := left
    exact .kept (.of_same rfl rfl rfl)
  | group g =>
    obtain rfl := left
    exact .kept (.of_same rfl rfl rfl)
  | encode k v =>
    change encodeStep k v s = .next t at hp
    unfold encodeStep at hp
    split at hp
    · cases hp
      exact .kept (.of_same rfl rfl rfl)
    · cases hp
  | otherMaster addr be data =>
    obtain rfl := left
    exact .kept (.of_same rfl rfl rfl)

/-! ### The requester's state (R236 to R239, R244) -/

/-- The requester is idle, and its presented transaction waits. -/
theorem requesterCoherent_idle {b : Bus} (presented : Option BusTxn) (idle : b.reqState = .idle)
    (current : b.curTxn = none) (pending : b.pendingRead = none) (ack : b.pktAck = false) (op : b.compOp = .idle) :
    RequesterCoherent b presented where
  idle _ := ⟨current, pending⟩
  writing h := by rw [idle] at h; cases h
  reading h := by rw [idle] at h; cases h
  ack := by simp [idle, ack]
  presented t h := by rw [current] at h; cases h
  noCompleter := op

theorem acceptWrite_coherent {txn : BusTxn} {s : State} (h : RequesterCoherent s.bus s.ports.txnIn)
    (presented : s.ports.txnIn = some txn) (write : txn.we = true) (waited : s.bus.reqState = .idle) :
    RequesterCoherent (acceptWrite txn s).bus (acceptWrite txn s).ports.txnIn where
  idle := nofun
  writing _ := ⟨List.cons_ne_nil _ _, (h.idle waited).2, txn, rfl, write⟩
  reading := nofun
  ack := ⟨fun _ => rfl, fun _ => rfl⟩
  presented _ current := presented.trans current
  noCompleter := h.noCompleter

theorem acceptRead_coherent {txn : BusTxn} {s : State} (h : RequesterCoherent s.bus s.ports.txnIn)
    (presented : s.ports.txnIn = some txn) (read : txn.we = false) :
    RequesterCoherent (acceptRead txn s).bus (acceptRead txn s).ports.txnIn where
  idle := nofun
  writing := nofun
  reading _ := ⟨txn, rfl, read, rfl⟩
  ack := ⟨nofun, nofun⟩
  presented _ current := presented.trans current
  noCompleter := h.noCompleter

/-- The requester's Packetizer: a write is completed with the last of its entries, and is under way until then. -/
theorem packetizerStep_requesterCoherent {s : State} (h : RequesterCoherent s.bus s.ports.txnIn) :
    RequesterCoherent (packetizerStep s).bus (packetizerStep s).ports.txnIn := by
  by_cases enabled : s.bus.pktWords = [] ∨ ¬ s.bridge.txq.length < s.cfg.txqDepth
  · rwa [packetizerStep_of_disabled enabled]
  push Not at enabled
  obtain ⟨framed, room⟩ := enabled
  obtain ⟨e, es, words⟩ := List.exists_cons_of_ne_nil framed
  rw [packetizerStep_of_room words room]
  split
  · cases acked : s.bus.pktAck with
    | true =>
      obtain ⟨-, pending, x, current, -⟩ := h.writing (h.ack.mp acked)
      rw [frameQueued_of_write (s := entryQueued e es s) acked current (by simp [entryQueued, h.noCompleter])]
      exact requesterCoherent_idle _ rfl rfl pending rfl h.noCompleter
    | false =>
      have notWriting : s.bus.reqState ≠ .writing := fun writing => by simp [h.ack.mpr writing] at acked
      rw [frameQueued_of_unacked (s := entryQueued e es s) acked]
      refine ⟨h.idle, fun writing => absurd writing notWriting, h.reading, h.ack, h.presented, ?_⟩
      simp [entryQueued, h.noCompleter]
  · rename_i more
    refine ⟨h.idle, fun writing => ?_, h.reading, h.ack, h.presented, h.noCompleter⟩
    obtain ⟨-, rest⟩ := h.writing writing
    exact ⟨by simpa [entryQueued] using more, rest⟩

/-- The requester's message: the RESPONSE ends the read, any other leaves the tunnel's state. -/
theorem requesterReceive_coherent {m : Message} {s : State} (h : RequesterCoherent s.bus s.ports.txnIn) :
    RequesterCoherent (requesterReceive m s).bus (requesterReceive m s).ports.txnIn := by
  by_cases answers : answersPending m s = true
  · obtain ⟨-, reading, -⟩ := (answersPending_iff m s).mp answers
    obtain ⟨x, current, -⟩ := h.reading reading
    have unacked : s.bus.pktAck = false := by simpa [reading] using h.ack
    rw [requesterReceive_answer answers current]
    exact requesterCoherent_idle _ rfl rfl rfl unacked h.noCompleter
  · rw [requesterReceive_other answers]
    exact ⟨h.idle, h.writing, h.reading, h.ack, h.presented, h.noCompleter⟩

/-- A transaction that comes to the bus finds none there, or is not presented. -/
theorem presentTxn_coherent {txn : BusTxn} {s : State} (h : RequesterCoherent s.bus s.ports.txnIn) :
    RequesterCoherent (presentTxn txn s).bus (presentTxn txn s).ports.txnIn := by
  rw [presentTxn_eq]
  refine ⟨h.idle, h.writing, h.reading, h.ack, fun x current => ?_, h.noCompleter⟩
  simp [h.presented x current]

/-- Every move of a requester keeps its state fitting together. -/
theorem TunnelMove.requesterCoherent {a : Action} {s t : State} (move : TunnelMove s a t) (role : s.cfg.role = .master)
    (h : RequesterCoherent s.bus s.ports.txnIn) : RequesterCoherent t.bus t.ports.txnIn := by
  cases move with
  | kept kept =>
    obtain ⟨-, ⟨st, buf, held, bus⟩, presented⟩ := kept
    rw [bus, presented]
    exact ⟨h.idle, h.writing, h.reading, h.ack, h.presented, h.noCompleter⟩
  | powerUp => exact requesterCoherent_idle _ rfl rfl rfl rfl rfl
  | @linkReset _ u _ sampled =>
    obtain ⟨cfg, ⟨st, buf, held, bus⟩, -⟩ := sampled
    have op : (tunnelLinkReset u).bus.compOp = .idle := by
      rw [tunnelLinkReset_compOp, cfg, role, bus]
      exact h.noCompleter
    rw [resetTick_eq]
    exact requesterCoherent_idle _ rfl rfl rfl rfl op
  | packetizer => exact packetizerStep_requesterCoherent h
  | acceptWrite free presented write =>
    obtain ⟨-, waited, -⟩ := (requesterFree_iff s).mp free
    exact acceptWrite_coherent h presented write waited
  | acceptRead free presented read => exact acceptRead_coherent h presented read
  | @receive _ m take =>
    have held : s.bus.held = some m := by simpa only [takeable, role] using take
    rw [tunnelReceive_requester role, holdMsg_of_held held]
    exact requesterReceive_coherent h
  | busDone v => rwa [completerBusDone_of_no_cycle v (.inl h.noCompleter)]
  | present txn => exact presentTxn_coherent h

/-! ### The completer's state (R241 to R244) -/

theorem completerCoherent_no_frame {b : Bus} (sent : b.pktWords = []) (op : b.compOp ≠ .respond)
    (ack : b.pktAck = false) (noRequester : b.reqState = .idle ∧ b.curTxn = none ∧ b.pendingRead = none) :
    CompleterCoherent b :=
  ⟨by simp [sent, op], ack, noRequester⟩

theorem packetizerStep_completerCoherent {s : State} (h : CompleterCoherent s.bus) :
    CompleterCoherent (packetizerStep s).bus := by
  by_cases enabled : s.bus.pktWords = [] ∨ ¬ s.bridge.txq.length < s.cfg.txqDepth
  · rwa [packetizerStep_of_disabled enabled]
  push Not at enabled
  obtain ⟨framed, room⟩ := enabled
  obtain ⟨e, es, words⟩ := List.exists_cons_of_ne_nil framed
  have responding : s.bus.compOp = .respond := h.respond.mp framed
  rw [packetizerStep_of_room words room]
  split
  · rename_i last
    rw [frameQueued_of_unacked (s := entryQueued e es s) h.noAck]
    refine completerCoherent_no_frame (by simpa [entryQueued] using last) ?_ h.noAck h.noRequester
    simp [entryQueued, responding]
  · rename_i more
    have left : es ≠ [] := by simpa using more
    exact ⟨⟨fun _ => responding, fun _ => left⟩, h.noAck, h.noRequester⟩

theorem completerReceive_coherent {m : Message} {s : State} (h : CompleterCoherent s.bus)
    (sent : s.bus.pktWords = []) : CompleterCoherent (completerReceive m s).bus := by
  by_cases write : m.mtype = typeWrite
  · rw [completerReceive_write write]
    exact completerCoherent_no_frame sent nofun h.noAck h.noRequester
  by_cases read : m.mtype = typeRead
  · rw [completerReceive_read read]
    exact completerCoherent_no_frame sent nofun h.noAck h.noRequester
  · rw [completerReceive_other write read]
    exact ⟨h.respond, h.noAck, h.noRequester⟩

theorem completerBusDone_coherent (v : Option Word) {s : State} (h : CompleterCoherent s.bus) :
    CompleterCoherent (completerBusDone v s).bus := by
  have sent : s.bus.compOp ≠ .respond → s.bus.pktWords = [] := fun op => not_not.mp (mt h.respond.mp op)
  cases op : s.bus.compOp with
  | idle => rwa [completerBusDone_of_no_cycle v (.inl op)]
  | respond => rwa [completerBusDone_of_no_cycle v (.inr op)]
  | busWrite addr data be =>
    rw [completerBusDone_write v op]
    exact completerCoherent_no_frame (sent (by simp [op])) nofun h.noAck h.noRequester
  | busRead addr be stale =>
    rw [completerBusDone_read v op]
    by_cases wanted : stale = false ∧ s.line.linkState = .ready
    · rw [finishRead_responds _ wanted]
      exact ⟨⟨fun _ => rfl, fun _ => List.cons_ne_nil _ _⟩, rfl, h.noRequester⟩
    · rw [finishRead_drops _ wanted]
      exact completerCoherent_no_frame (sent (by simp [op])) nofun h.noAck h.noRequester

/-- A link reset leaves no response behind. -/
theorem linkReset_ne_respond (op : CompOp) : op.linkReset ≠ .respond := by
  cases op <;> nofun

/-- Every move of a completer keeps its state fitting together. -/
theorem TunnelMove.completerCoherent {a : Action} {s t : State} (move : TunnelMove s a t) (role : s.cfg.role = .slave)
    (h : CompleterCoherent s.bus) : CompleterCoherent t.bus := by
  cases move with
  | kept kept =>
    obtain ⟨-, ⟨st, buf, held, bus⟩, -⟩ := kept
    rw [bus]
    exact ⟨h.respond, h.noAck, h.noRequester⟩
  | powerUp => exact completerCoherent_no_frame rfl nofun rfl ⟨rfl, rfl, rfl⟩
  | @linkReset _ u _ sampled =>
    have op : (tunnelLinkReset u).bus.compOp ≠ .respond := by
      rw [tunnelLinkReset_compOp, sampled.cfg, role]
      exact linkReset_ne_respond _
    rw [resetTick_eq]
    exact completerCoherent_no_frame rfl op rfl ⟨rfl, rfl, rfl⟩
  | packetizer => exact packetizerStep_completerCoherent h
  | acceptWrite free | acceptRead free =>
    obtain ⟨requester, -⟩ := (requesterFree_iff s).mp free
    cases requester.symm.trans role
  | @receive _ m take =>
    have taken : completerFree s = true ∧ s.bus.held = some m := by simpa [takeable, role] using take
    obtain ⟨free, sent⟩ := (completerFree_iff s).mp taken.1
    rw [tunnelReceive_completer role free sent, holdMsg_of_held taken.2]
    exact completerReceive_coherent h sent
  | busDone v => exact completerBusDone_coherent v h
  | present txn =>
    rw [presentTxn_eq]
    exact h

/-! ### The invariant -/

/-- Every action keeps the tunnel's state coherent with the endpoint's role. -/
theorem perform_coherent {a : Action} {s t : State} (h : Coherent s) (hp : perform a s = .next t) : Coherent t := by
  have move := perform_tunnelMove hp
  have cfg := perform_cfg hp
  unfold Coherent at h ⊢
  rw [cfg]
  cases role : s.cfg.role with
  | master =>
    rw [role] at h
    exact move.requesterCoherent role h
  | slave =>
    rw [role] at h
    exact move.completerCoherent role h

/-- Settles O47: a step performs one action, which moves the tunnel's state by one operation. -/
theorem coherenceKept : Obligations.CoherenceKept := by
  unfold Obligations.CoherenceKept
  intro s t h hs
  obtain ⟨-, -, ⟨-, eager⟩ | ⟨a, rest, -, named⟩⟩ := step_cases hs
  · exact perform_coherent h eager
  · exact perform_coherent (s := s.putAgenda rest) h named

/-! ### A pending read (R238, R239) -/

/-- A message that ends the pending read is its RESPONSE. -/
theorem tunnelReceive_pendingRead {m : Message} {s : State} (held : s.bus.held = some m) :
    (tunnelReceive m s).bus.pendingRead = s.bus.pendingRead ∨ answersPending m s = true := by
  cases role : s.cfg.role with
  | master =>
    rw [tunnelReceive_requester role, holdMsg_of_held held]
    by_cases answers : answersPending m s = true
    · exact .inr answers
    · rw [requesterReceive_other answers]
      exact .inl rfl
  | slave =>
    left
    by_cases busy : s.bus.compOp ≠ .idle ∨ s.bus.pktWords ≠ []
    · rw [tunnelReceive_busy role busy]
      rfl
    push Not at busy
    rw [tunnelReceive_completer role busy.1 busy.2]
    unfold completerReceive
    split_ifs <;> rfl

theorem takeable_held {m : Message} {s : State} (take : takeable s = some m) : s.bus.held = some m := by
  unfold takeable at take
  repeat' split at take
  all_goals simp_all

/-- What may end a pending read: the power-up reset, a link reset, or its RESPONSE. -/
theorem TunnelMove.pendingRead {act : Action} {s t : State} {a : Word} (move : TunnelMove s act t)
    (reading : s.bus.reqState = .reading) (pending : s.bus.pendingRead = some a) :
    t.bus.pendingRead = some a ∨ s.line.linkState = .reset ∨ act = .rst ∨
      ∃ m, s.bus.held = some m ∧ m.mtype = typeResponse ∧ m.addr = a := by
  cases move with
  | kept kept =>
    obtain ⟨-, ⟨st, buf, held, bus⟩, -⟩ := kept
    exact .inl (by rw [bus]; exact pending)
  | powerUp => exact .inr (.inr (.inl rfl))
  | linkReset here => exact .inr (.inl here)
  | packetizer => exact .inl (by rw [packetizerStep_keeps]; exact pending)
  | acceptWrite free | acceptRead free =>
    obtain ⟨-, idle, -⟩ := (requesterFree_iff s).mp free
    cases idle.symm.trans reading
  | @receive _ m take =>
    have held := takeable_held take
    obtain same | answers := tunnelReceive_pendingRead held
    · exact .inl (same.trans pending)
    · obtain ⟨response, -, address⟩ := (answersPending_iff m s).mp answers
      exact .inr (.inr (.inr ⟨m, held, response, Option.some.inj (address.symm.trans pending)⟩))
  | busDone v => exact .inl (by rw [completerBusDone_keeps]; exact pending)
  | present txn => exact .inl (by rw [presentTxn_eq]; exact pending)

/-- The power-up reset is not of the eager schedule (46_endpoint.md R271). -/
theorem nextAction_ne_rst (s : State) : nextAction s ≠ .rst := by
  unfold nextAction
  cases enabled : enabledBusStep s with
  | none => nofun
  | some a => exact (enabledBusStep_offLine enabled).1

/-- Settles O42: R236 holds, so the row's transaction is accepted; and the one action of a step ends the read it finds
pending in the three ways only. -/
theorem requesterAcceptsRead : Obligations.RequesterAcceptsRead := by
  unfold Obligations.RequesterAcceptsRead
  refine ⟨fun addr data be s role idle sent ready presented => ?accepts, fun s t a reading pending hs => ?pends⟩
  case accepts =>
    exact congrArg _ (offerTxn_accepts ((requesterFree_iff s).mpr ⟨role, idle, sent, ready⟩) presented)
  case pends =>
    obtain ⟨-, -, ⟨-, eager⟩ | ⟨act, rest, named, hp⟩⟩ := step_cases hs
    · obtain kept | here | isRst | answered := (perform_tunnelMove eager).pendingRead reading pending
      · exact .inl kept
      · exact .inr (.inl here)
      · exact absurd isRst (nextAction_ne_rst s)
      · exact .inr (.inr (.inr answered))
    · rw [named, List.head?_cons, Option.some.injEq]
      exact (perform_tunnelMove (s := s.putAgenda rest) hp).pendingRead reading pending

end Sys2Proof.Machine
end

section
/-! A line tick outside RESET as its neighbours see it (46_endpoint.md R261 to R267): what it leaves alone, the word
that the transmit path sends, and the entry that the receive path delivers. -/

namespace Sys2Proof.Machine

set_option Elab.async false

/-! ### What a tick leaves alone (R261, R267) -/

/-- Settles O14: the one equation of the tick names every part that it writes. -/
theorem lineWordFrame : Obligations.LineWordFrame := by
  unfold Obligations.LineWordFrame
  intro i w s row outside
  refine ⟨_, exec_lineWord_outside_reset row outside, ?_⟩
  rw [receiveIn_eq]
  exact ⟨rfl, rfl, rfl, rfl, rfl, rfl, rfl, rfl, rfl, rfl, rfl, rfl, rfl, rfl, rfl, rfl, rfl, fun _ => rfl⟩

/-! ### Transmit selection (R263) -/

/-- A word is sent with the scrambler and the queue as they stand. -/
theorem sendWord_sent (word : TxWord) {s u : State} (encRd : u.line.encRd = s.line.encRd) :
    Sent s (sendWord word u) word u.line.scrState u.bridge.txq := by
  rw [sendWord_eq, encRd]
  exact ⟨rfl, rfl, rfl, rfl, beq_iff_eq⟩

/-- The transmit path alone decides what a tick sends. -/
theorem receiveIn_sent {s : State} {word : TxWord} {scr : BitVec 23} {q : List TxEntry} (w : LineWord)
    (sent : Sent s (transmit s.line.linkState s) word scr q) :
    Sent s (receiveIn s.line.linkState w s) word scr q := by
  obtain ⟨tx, encRd, scrState, txq, txLastIdle⟩ := sent
  rw [receiveIn_eq]
  exact ⟨tx, encRd, scrState, txq, txLastIdle⟩

theorem transmit_of_sendable {s : State} {e : TxEntry} (head : sendable s = some e) :
    transmit .ready s = sendEntry e (dequeueTx s) := by
  unfold transmit
  rw [if_pos rfl, head]

theorem sendable_sof {s : State} {q : List TxEntry} (head : s.bridge.txq = .sof :: q) :
    sendable s = if s.line.txLastIdle then some .sof else none := by
  unfold sendable
  rw [head]

theorem sendable_data {s : State} {d : Word} {q : List TxEntry} (head : s.bridge.txq = .data d :: q) :
    sendable s = some (.data d) := by
  unfold sendable
  rw [head]

theorem sendable_empty {s : State} (empty : s.bridge.txq = []) : sendable s = none := by
  unfold sendable
  rw [empty]

theorem dequeueTx_txq {s : State} {e : TxEntry} {q : List TxEntry} (head : s.bridge.txq = e :: q) :
    (dequeueTx s).bridge.txq = q := congrArg List.tail head

/-- A SOF is sent right after an IDLE word, and the scrambler begins anew (43_scrambler.md R193). -/
theorem transmit_sof {s : State} {q : List TxEntry} (head : s.bridge.txq = .sof :: q)
    (gap : s.line.txLastIdle = true) : Sent s (transmit .ready s) .sof s.cfg.scrSeed q := by
  rw [transmit_of_sendable ((sendable_sof head).trans (if_pos gap)), ← dequeueTx_txq head]
  exact sendWord_sent .sof (u := (dequeueTx s).putLine { s.line with scrState := s.cfg.scrSeed }) rfl

theorem transmit_data_scrambled {s : State} {d : Word} {q : List TxEntry} (head : s.bridge.txq = .data d :: q)
    (whiten : s.regs.scrBypass = false) :
    Sent s (transmit .ready s) (.data (scramble s.line.scrState d).1) (scramble s.line.scrState d).2 q := by
  have on : (dequeueTx s).regs.scrBypass = false := whiten
  rw [transmit_of_sendable (sendable_data head), ← dequeueTx_txq head]
  simp only [sendEntry, on]
  exact sendWord_sent _ (u := (dequeueTx s).putLine { s.line with scrState := (scramble s.line.scrState d).2 }) rfl

theorem transmit_data_bypassed {s : State} {d : Word} {q : List TxEntry} (head : s.bridge.txq = .data d :: q)
    (bypass : s.regs.scrBypass = true) : Sent s (transmit .ready s) (.data d) s.line.scrState q := by
  have off : (dequeueTx s).regs.scrBypass = true := bypass
  rw [transmit_of_sendable (sendable_data head), ← dequeueTx_txq head]
  simp only [sendEntry, off]
  exact sendWord_sent _ (u := dequeueTx s) rfl

/-- With nothing sendable IDLE goes out, and the queue waits. -/
theorem transmit_nothing {s : State} (nothing : sendable s = none) :
    Sent s (transmit .ready s) .idle s.line.scrState s.bridge.txq := by
  have idles : transmit .ready s = sendWord .idle s := by
    unfold transmit
    rw [if_pos rfl, nothing]
  rw [idles]
  exact sendWord_sent .idle rfl

/-- Settles O23: by the head of the queue, what `transmit` sends in READY; every other state sends IDLE. -/
theorem transmitSelection : Obligations.TransmitSelection := by
  unfold Obligations.TransmitSelection
  intro i w s row outside
  have ready {word scr q} (here : s.line.linkState = .ready) (sent : Sent s (transmit .ready s) word scr q) :
      Sent s (receiveIn s.line.linkState w s) word scr q := receiveIn_sent w (here ▸ sent)
  refine ⟨_, exec_lineWord_outside_reset row outside, fun q here head gap => ready here (transmit_sof head gap),
    fun d q here head whiten => ready here (transmit_data_scrambled head whiten),
    fun d q here head bypass => ready here (transmit_data_bypassed head bypass), fun nothing => ?_⟩
  by_cases here : s.line.linkState = .ready
  · refine ready here (transmit_nothing ?_)
    obtain empty | ⟨q, head, noGap⟩ := nothing.resolve_left (not_not_intro here)
    · exact sendable_empty empty
    · simp [sendable_sof head, noGap]
  · exact receiveIn_sends_idle w here

/-! ### Receive delivery (R264, R265) -/

/-- The trainer raises fall-backs only (60_exceptions.md R300). -/
theorem trainStep_count_rxOverflow (st : LinkState) (cls : WordClass) (s : State) :
    (trainStep st cls s).2.events.count .rxOverflow = s.events.count .rxOverflow := by
  have fall (f : FallBack) (u : State) : (fallBack f u).events.count .rxOverflow = u.events.count .rxOverflow := by
    simp [fallBack, State.raise]
  unfold trainStep
  split_ifs
  · exact fall .hostReset s
  · exact fall .phyDown s
  · cases st with
    | reset | error => rfl
    | sendTraining =>
      simp only [trainSendTraining]
      split_ifs
      · exact fall _ _
      all_goals rfl
    | waitAlign =>
      simp only [trainWaitAlign]
      split_ifs
      · rfl
      · exact fall _ _
      · exact fall _ _
      · rfl
    | aligned =>
      simp only [trainAligned]
      split_ifs
      · exact fall _ _
      · exact fall _ _
      all_goals rfl
    | ready =>
      simp only [trainReady]
      split_ifs
      · exact fall _ _
      · exact fall _ _
      · rfl

/-- The overflows of a tick are those of its delivery. -/
theorem receiveIn_count_rxOverflow (w : LineWord) (s : State) :
    (receiveIn s.line.linkState w s).events.count .rxOverflow =
      s.events.count .rxOverflow + (overflowEvents w s).count .rxOverflow := by
  obtain ⟨es, answered, events⟩ := receiveIn_events w s
  have trainer : es.count .rxOverflow = 0 := by
    have count := congrArg (List.count .rxOverflow) answered
    rw [trainStep_count_rxOverflow, List.count_append] at count
    exact Nat.left_eq_add.mp count
  have violation : (violationEvents w s).count .rxOverflow = 0 := by
    unfold violationEvents
    split_ifs <;> rfl
  rw [events, List.count_append, List.count_append, List.count_append, trainer, violation]
  rfl

/-- What the delivery of a tick writes, in `t` as in `u`. -/
structure SameDelivery (t u : State) : Prop where
  dscrState : t.line.dscrState = u.line.dscrState
  rxq : t.bridge.rxq = u.bridge.rxq
  rxOverflow : t.regs.rxOverflow = u.regs.rxOverflow
  overflows : t.events.count .rxOverflow = u.events.count .rxOverflow

/-- In READY a tick delivers its word as `receiveDelivery` does. -/
theorem receiveIn_delivers {s : State} (w : LineWord) (ready : s.line.linkState = .ready) :
    SameDelivery (receiveIn s.line.linkState w s) (receiveDelivery (classHere w s) s) := by
  have overflows : (receiveIn s.line.linkState w s).events.count .rxOverflow =
      (receiveDelivery (classHere w s) s).events.count .rxOverflow := by
    rw [receiveIn_count_rxOverflow, receiveDelivery_events, List.count_append, overflowEvents]
    simp only [ready, true_and]
  obtain ⟨line, bridge, -, -, rxOverflow⟩ := receiveIn_paths w s
  rw [if_pos ready] at line bridge rxOverflow
  exact ⟨(congrArg Line.dscrState line :), (congrArg Bridge.rxq bridge :), rxOverflow, overflows⟩

/-- Outside READY a tick delivers nothing. -/
theorem receiveIn_delivers_nothing {s : State} (w : LineWord) (notReady : s.line.linkState ≠ .ready) :
    SameDelivery (receiveIn s.line.linkState w s) s := by
  have overflows := receiveIn_count_rxOverflow w s
  rw [overflowEvents_of_not_ready notReady] at overflows
  obtain ⟨line, bridge, -, -, rxOverflow⟩ := receiveIn_paths w s
  rw [if_neg notReady] at line bridge rxOverflow
  exact ⟨(congrArg Line.dscrState line :), (congrArg Bridge.rxq bridge :), rxOverflow, overflows⟩

/-- An entry delivered from `u` is delivered from any `s` with the same queue, build, overflow and events: the two may
differ in the descrambler. -/
theorem deliver_delivered (e : RxEntry) {s u : State} (cfg : u.cfg = s.cfg) (rxq : u.bridge.rxq = s.bridge.rxq)
    (overflow : u.regs.rxOverflow = s.regs.rxOverflow) (events : u.events = s.events) :
    Delivered s (deliver e u) e := by
  rw [deliver_eq, cfg, rxq]
  constructor
  · intro room
    rw [if_pos room]
    exact ⟨rfl, overflow, congrArg _ events⟩
  · intro full
    rw [if_neg (Nat.not_lt.mpr full)]
    exact ⟨rxq, rfl, by simp [events]⟩

theorem deliver_dscrState (e : RxEntry) (s : State) : (deliver e s).line.dscrState = s.line.dscrState := by
  rw [deliver_eq]
  split_ifs <;> rfl

theorem SameDelivery.delivered {s t u : State} {e : RxEntry} (same : SameDelivery t u) (delivered : Delivered s u e) :
    Delivered s t e := by
  obtain ⟨-, rxq, overflow, overflows⟩ := same
  obtain ⟨room, full⟩ := delivered
  constructor
  · rw [rxq, overflow, overflows]
    exact room
  · rw [rxq, overflow, overflows]
    exact full

/-- Settles O24: by the class of the word, what `receiveDelivery` does in READY; no other state delivers. (The name
`receiveDelivery` is the model's function.) -/
theorem receiveDelivery_holds : Obligations.ReceiveDelivery := by
  unfold Obligations.ReceiveDelivery
  intro i w s row outside
  refine ⟨_, exec_lineWord_outside_reset row outside, fun ready => ?_, fun nothing => ?_⟩
  · have same := receiveIn_delivers w ready
    refine ⟨fun sof => ?_, fun err => ?_, fun r data => ?_⟩
    · rw [sof] at same
      exact ⟨same.dscrState.trans (deliver_dscrState _ _), same.delivered (deliver_delivered _ rfl rfl rfl rfl)⟩
    · rw [err] at same
      exact ⟨same.dscrState.trans (deliver_dscrState _ _), same.delivered (deliver_delivered _ rfl rfl rfl rfl)⟩
    · rw [data, receiveDelivery] at same
      split_ifs with bypass
      · rw [if_pos bypass] at same
        exact ⟨same.dscrState.trans (deliver_dscrState _ _), same.delivered (deliver_delivered _ rfl rfl rfl rfl)⟩
      · rw [if_neg bypass] at same
        exact ⟨same.dscrState.trans (deliver_dscrState _ _), same.delivered (deliver_delivered _ rfl rfl rfl rfl)⟩
  · have same : SameDelivery (receiveIn s.line.linkState w s) s := by
      by_cases ready : s.line.linkState = .ready
      · have idle : classHere w s = .idle := nothing.resolve_left (not_not_intro ready)
        have delivers := receiveIn_delivers w ready
        rw [idle] at delivers
        exact delivers
      · exact receiveIn_delivers_nothing w ready
    exact ⟨same.dscrState, same.rxq, same.rxOverflow⟩

end Sys2Proof.Machine
end

section
/-! The transport's `rx_idle` (46_endpoint.md R262; 10_state.md R52): to write another sample of it commutes with every
operation of a line tick, because none reads it. -/

namespace Sys2Proof.Machine

set_option Elab.async false

/-! ### Another sample -/

/-- The state with another sample of `rx_idle`. -/
def resample (idle : Bool) (s : State) : State :=
  { s with regs := { s.regs with rxIdleLast := idle }, ports := { s.ports with rxIdleIn := idle } }

theorem resample_line (idle : Bool) (s : State) : (resample idle s).line = s.line := rfl

theorem resample_rx (idle : Bool) (s : State) : (resample idle s).rx = s.rx := rfl

theorem sampleInputs_resample (raw : LineWord) (phy idle idle' : Bool) (s : State) :
    sampleInputs raw phy idle' s = resample idle' (sampleInputs raw phy idle s) := rfl

/-! ### The RESET tick (42_linktrainer.md R163) -/

theorem tunnelLinkReset_resample (idle : Bool) (s : State) :
    tunnelLinkReset (resample idle s) = resample idle (tunnelLinkReset s) := by
  obtain ⟨cfg, line, bridge, bus, regs, ports, rx, mem, agenda, events, busLog, tick⟩ := s
  obtain ⟨pktWords, pktAck, depState, depBuf, held, reqState, curTxn, pendingRead, compOp⟩ := bus
  obtain ⟨role, lanes⟩ := cfg
  cases role with
  | slave => rfl
  | master =>
    cases reqState with
    | idle => rfl
    | writing | reading => cases curTxn <;> rfl

theorem resetTick_resample (idle : Bool) (s : State) : resetTick (resample idle s) = resample idle (resetTick s) := by
  rw [resetTick_eq, resetTick_eq, tunnelLinkReset_resample]
  rfl

/-! ### The tick outside RESET (R261) -/

theorem countViolation_resample (idle : Bool) (st : LinkState) (cls : WordClass) (s : State) :
    countViolation st cls (resample idle s) = resample idle (countViolation st cls s) := by
  unfold countViolation
  split_ifs <;> rfl

/-- A trainer's answer with another sample of `rx_idle`. -/
def resampleAnswer (idle : Bool) (r : Trained) : Trained := (r.1, resample idle r.2)

theorem choice_resample {idle : Bool} {c : Prop} [Decidable c] {a b a' b' : Trained} (ha : a' = resampleAnswer idle a)
    (hb : b' = resampleAnswer idle b) : (if c then a' else b') = resampleAnswer idle (if c then a else b) := by
  split_ifs
  · exact ha
  · exact hb

/-- The trainer's conditions do not read the sample, and it commutes with each of the trainer's writes. -/
theorem trainStep_resample (idle : Bool) (st : LinkState) (cls : WordClass) (s : State) :
    trainStep st cls (resample idle s) = resampleAnswer idle (trainStep st cls s) := by
  refine choice_resample rfl (choice_resample rfl ?_)
  cases st with
  | reset | error => rfl
  | sendTraining => exact choice_resample rfl (choice_resample rfl rfl)
  | waitAlign => exact choice_resample rfl (choice_resample rfl (choice_resample rfl rfl))
  | aligned => exact choice_resample rfl (choice_resample rfl (choice_resample rfl rfl))
  | ready => exact choice_resample rfl (choice_resample rfl rfl)

theorem deliver_resample (idle : Bool) (e : RxEntry) (s : State) :
    deliver e (resample idle s) = resample idle (deliver e s) := by
  rw [deliver_eq, deliver_eq, apply_ite (resample idle)]
  rfl

theorem receiveDelivery_resample (idle : Bool) (cls : WordClass) (s : State) :
    receiveDelivery cls (resample idle s) = resample idle (receiveDelivery cls s) := by
  cases cls with
  | idle => rfl
  | sof => exact deliver_resample idle .sof (s.putLine { s.line with dscrState := s.cfg.scrSeed })
  | err => exact deliver_resample idle .err s
  | data r =>
    simp only [receiveDelivery, apply_ite (resample idle), ← deliver_resample]
    rfl

theorem transmit_resample (idle : Bool) (st : LinkState) (s : State) :
    transmit st (resample idle s) = resample idle (transmit st s) := by
  have same : sendable (resample idle s) = sendable s := rfl
  unfold transmit
  rw [same]
  split_ifs
  · cases sendable s with
    | none => rfl
    | some e =>
      cases e with
      | sof => rfl
      | data d =>
        simp only [sendEntry, apply_ite (resample idle)]
        rfl
  · rfl

theorem finishTick_resample (idle : Bool) (next : LinkState) (comma slip : Bool) (s : State) :
    finishTick next comma slip (resample idle s) = resample idle (finishTick next comma slip s) := rfl

theorem alignTick_resample (idle : Bool) (st : LinkState) (comma : Bool) (s : State) :
    alignTick st comma (resample idle s) = resample idle (alignTick st comma s) := rfl

theorem receiveLanes_resample (idle : Bool) (w : LineWord) (s : State) :
    receiveLanes w (resample idle s) = resample idle (receiveLanes w s) := by
  rw [receiveLanes_eq, receiveLanes_eq]
  rfl

theorem receiveIn_resample (idle : Bool) (st : LinkState) (w : LineWord) (s : State) :
    receiveIn st w (resample idle s) = resample idle (receiveIn st w s) := by
  have delivered (cls : WordClass) (t : State) : (if st = .ready then receiveDelivery cls (resample idle t)
      else resample idle t) = resample idle (if st = .ready then receiveDelivery cls t else t) := by
    rw [receiveDelivery_resample, apply_ite (resample idle)]
  unfold receiveIn
  rw [alignTick_resample, receiveLanes_resample, resample_line]
  generalize receiveLanes w (alignTick st (isComma w) s) = received
  dsimp only
  rw [resample_rx, countViolation_resample, trainStep_resample, resampleAnswer]
  dsimp only
  rw [delivered, transmit_resample, finishTick_resample]

theorem receiveWord_resample (idle : Bool) (w : LineWord) (s : State) :
    receiveWord w (resample idle s) = resample idle (receiveWord w s) := by
  unfold receiveWord
  rw [resetTick_resample, receiveIn_resample, apply_ite (resample idle)]
  rfl

/-- Settles O54: the two steps receive the same word, in states that differ in the sample. -/
theorem rxIdleOnlySampled : Obligations.RxIdleOnlySampled := by
  unfold Obligations.RxIdleOnlySampled
  intro s raw phy idle idle' rest legal cause
  refine ⟨_, _, step_tick (s := s.putAgenda _) legal cause rfl, step_tick (s := s.putAgenda _) legal cause rfl, ?_⟩
  rw [sampleInputs_resample raw phy idle idle', receiveWord_resample]
  rfl

end Sys2Proof.Machine
end

section
/-! The channel bit by bit (46_endpoint.md R275): read as one number, the bits of a channel are its first content and
then the stream sent. -/

namespace Sys2Proof.Machine

set_option Elab.async false

@[simp] theorem length_lineBits (w : LineWord) : (lineBits w).length = 40 := by simp [lineBits]

theorem getD_lineBits {w : LineWord} {j : Nat} (inside : j < 40) : (lineBits w).getD j false = w.getLsbD j := by
  simp [lineBits, inside]

/-- Words as the digits of one number have the bits of their stream. -/
theorem testBit_ofDigits (sent : List LineWord) (k : Nat) :
    (Nat.ofDigits (2 ^ 40) (sent.map BitVec.toNat)).testBit k = (streamBits sent).getD k false := by
  induction sent generalizing k with
  | nil => simp [streamBits]
  | cons w rest ih =>
    have bits : streamBits (w :: rest) = lineBits w ++ streamBits rest := List.flatMap_cons
    rw [List.map_cons, Nat.ofDigits_cons, Nat.add_comm, Nat.testBit_two_pow_mul_add _ w.isLt, bits]
    split_ifs with first
    · rw [List.getD_append _ _ _ _ (by simpa using first), getD_lineBits first]
      rfl
    · rw [List.getD_append_right _ _ _ _ (by simpa using first), length_lineBits, ih]

/-- The bits of a channel: its content, then what is sent. -/
theorem Channel.testBit_bits {c : Channel} (fits : c.line < 2 ^ (c.delay + 40)) (sent : List LineWord) (k : Nat) :
    (c.bits sent).testBit k =
      if k < c.delay + 40 then c.line.testBit k else (streamBits sent).getD (k - (c.delay + 40)) false := by
  rw [Channel.bits, Nat.add_comm c.line, Nat.testBit_two_pow_mul_add _ fits, testBit_ofDigits]

/-- Settles O58: the n-th raw word is 40 bits of the channel read as one number. -/
theorem channelIsDelayLine : Obligations.ChannelIsDelayLine := by
  unfold Obligations.ChannelIsDelayLine
  intro c sent n j raw fits inside arrives
  rw [getElem?_rawWords arrives, BitVec.getLsbD_ofNat, Nat.testBit_div_two_pow, Nat.add_comm j,
    Channel.testBit_bits fits]
  simp only [inside, decide_true, Bool.true_and]

end Sys2Proof.Machine
end

section
/-! The instruction of a step (46_endpoint.md R261, R270): a unit's bytes decode to the one instruction of its bits, and
a step runs the instruction that its action fetches, whose bits are that unit's. -/

namespace Sys2Proof.Machine

set_option Elab.async false

/-! ### The unit fetched -/

/-- The bytes of a unit decode to nothing but the instruction of its bits. -/
theorem eq_decodeImage_of_decode {img : Image} {i : Instr}
    (decoded : decode img.format img.rd img.bytes = .ok (i, [])) : i = decodeImage img := by
  have reads := readImage_bytes img []
  rw [List.append_nil] at reads
  rw [decode, reads] at decoded
  cases decoded
  rfl

/-- A step that fetches a unit runs the instruction its bytes decode to. -/
theorem step_of_fetch {s t : State} {a : Action} {rest : List Action} {i : Instr} (img : Image)
    (legal : s.cfg.legal = true) (cause : s.regs.cause.toNat < 8) (scheduled : s.agenda = a :: rest)
    (fetched : fetch a (s.putAgenda rest) = some (decodeImage img, t))
    (decoded : decode img.format img.rd img.bytes = .ok (i, [])) : step s = exec i t := by
  rw [step_eq legal cause scheduled, perform, fetched, eq_decodeImage_of_decode decoded]

/-! ### What the steps of the endpoint fetch -/

theorem fetch_tick {s : State} {raw : LineWord} {phy idle : Bool} (outside : s.line.linkState ≠ .reset) :
    fetch (.tick raw phy idle) s = some (decodeImage (.line s.line.decRd
      (alignedWord (raw ++ s.line.rxPrev) s.line.alignOffset.val)), sampleInputs raw phy idle s) := if_neg outside

theorem fetch_accept {s : State} {x : BusTxn} (free : requesterFree s = true) (presented : s.ports.txnIn = some x) :
    fetch .accept s = some (decodeImage (.txn x.we x.addr x.data x.be), s) := by
  have offered : acceptable s = some x := (if_pos free).trans presented
  rw [fetch, fetchTxn, offered]
  rfl

theorem takeable_of_held {s : State} {m : Message} (held : s.bus.held = some m)
    (free : s.cfg.role = .master ∨ s.bus.compOp = .idle ∧ s.bus.pktWords = []) : takeable s = some m := by
  unfold takeable
  split
  · exact held
  · rename_i role
    obtain ⟨idle, sent⟩ := free.resolve_left (by rw [role]; decide)
    rw [if_pos (by simp [completerFree, idle, sent])]
    exact held

theorem fetch_receive {s : State} {m : Message} (take : takeable s = some m)
    (message : m.mtype = 0x01#8 ∨ m.mtype = 0x02#8 ∨ m.mtype = 0x03#8) :
    fetch .receive s = some (decodeImage (.header (headerWord m.mtype m.be) m.addr m.data), s) := by
  rw [fetch, fetchMessage, take]
  exact if_pos (legalHeader_headerWord message m.be)

theorem fetch_depacketizer {s : State} {hdr addr data : Word} {q : List RxEntry} (free : s.bus.held = none)
    (inFrame : s.bus.depState = .collect) (buffer : s.bus.depBuf = [hdr, addr, data])
    (crc : s.bridge.rxq = .data (crc32 [hdr, addr, data]) :: q) (malformed : legalHeader hdr = false) :
    fetch .depacketizer s = some (decodeImage (.header hdr addr data), s.putBridge { s.bridge with rxq := q }) := by
  have next : malformedNext s = some (hdr, addr, data) := by
    unfold malformedNext
    rw [free, inFrame, buffer, crc]
    exact if_pos ⟨rfl, malformed⟩
  rw [fetch, fetchMalformed, next, dequeueRx, crc]
  rfl

/-- Settles O44: action by action, the unit that the action fetches. -/
theorem stepRunsDecodedInstruction : Obligations.StepRunsDecodedInstruction := by
  unfold Obligations.StepRunsDecodedInstruction
  intro s rest i legal cause n
  refine ⟨fun raw phy idle scheduled outside => ?tick, fun g scheduled => ?group, fun off scheduled => ?read,
    fun off val scheduled => ?write, fun x scheduled role idle sent ready presented => ?accept,
    fun m scheduled held free message => ?receive,
    fun hdr addr data q scheduled free inFrame buffer crc malformed => ?malformed⟩
  case tick => exact step_of_fetch (.line _ _) legal cause scheduled (fetch_tick outside)
  case group => exact step_of_fetch (.group n.line.decRd g) legal cause scheduled rfl
  case read => exact step_of_fetch (.readAccess off) legal cause scheduled rfl
  case write => exact step_of_fetch (.writeAccess off val) legal cause scheduled rfl
  case accept =>
    have free : requesterFree n = true := (requesterFree_iff n).mpr ⟨role, idle, sent, ready⟩
    exact step_of_fetch (.txn _ _ _ _) legal cause scheduled (fetch_accept free presented)
  case receive =>
    have take : takeable n = some m := takeable_of_held held free
    exact step_of_fetch (.header _ _ _) legal cause scheduled (fetch_receive take message)
  case malformed =>
    exact step_of_fetch (.header _ _ _) legal cause scheduled
      (fetch_depacketizer (s := n) free inFrame buffer crc malformed)

end Sys2Proof.Machine
end

section
/-! STATUS (10_state.md R52; 47_control.md R287) field by field, and where a Fault arises (60_exceptions.md R301, R316):
from a reserved cause code, in any step and in the read of STATUS, and from a single `Encode` outside the alphabet. -/

namespace Sys2Proof.Machine

set_option Elab.async false

/-! ### STATUS (10_state.md R52; 47_control.md R287) -/

theorem exec_csrrStatus {s : State} (cause : s.regs.cause.toNat < 8) :
    exec .csrrStatus s = .next (returnToHost (statusValue s) s) := if_neg (Nat.not_le.mpr cause)

theorem exec_csrrStatus_reserved {s : State} (reserved : 8 ≤ s.regs.cause.toNat) :
    exec .csrrStatus s = .fault (.reservedCause s.regs.cause) := if_pos reserved

theorem exec_csrwStatus (val : Word) (s : State) : exec (.csrwStatus val) s = .next s := rfl

/-- Bits 7:0 of STATUS, the flags. -/
theorem statusValue_flags (s : State) :
    (statusValue s).getLsbD 0 = statusReady s ∧ (statusValue s).getLsbD 1 = statusError s ∧
      (statusValue s).getLsbD 2 = statusAligned s ∧ (statusValue s).getLsbD 3 = s.line.lock ∧
      (statusValue s).getLsbD 4 = s.regs.rxIdleLast ∧ (statusValue s).getLsbD 5 = s.regs.rxOverflow ∧
      (statusValue s).getLsbD 6 = s.regs.phyReadyLast ∧ (statusValue s).getLsbD 7 = false := by
  simp only [statusValue, BitVec.getLsbD_append, bit_getLsbD]
  simp

/-- Bits 31:8 of STATUS: the link state, the cause and the alignment offset, with what is reserved between and above
them. -/
theorem statusValue_fields (s : State) :
    (statusValue s).extractLsb' 8 3 = s.line.linkState.code ∧ (statusValue s).getLsbD 11 = false ∧
      (statusValue s).extractLsb' 12 4 = s.regs.cause ∧
      (statusValue s).extractLsb' 16 6 = BitVec.ofNat 6 s.line.alignOffset.val ∧
      (statusValue s).extractLsb' 22 10 = 0#10 := by
  refine ⟨?state, ?reserved11, ?cause, ?offset, ?reserved22⟩
  case reserved11 =>
    simp only [statusValue, BitVec.getLsbD_append, bit_getLsbD]
    simp
  case reserved22 =>
    simp (disch := decide) only [statusValue, BitVec.extractLsb'_append_eq_of_le]
    rfl
  all_goals
    simp (disch := decide) only [statusValue, BitVec.extractLsb'_append_eq_of_le]
    exact BitVec.extractLsb'_append_eq_right

/-- Settles O37: the word a read returns is `statusValue`, told by its flags and its fields. -/
theorem statusRegister : Obligations.StatusRegister := by
  unfold Obligations.StatusRegister
  refine ⟨fun _ => ⟨rfl, rfl⟩, fun val s cause => ⟨exec_csrwStatus val s, statusValue s, exec_csrrStatus cause, ?_⟩⟩
  obtain ⟨ready, error, aligned, lock, rxIdle, rxOverflow, phyReady, reserved7⟩ := statusValue_flags s
  obtain ⟨state, reserved11, causeField, offset, reserved22⟩ := statusValue_fields s
  refine ⟨?_, ?_, ?_, lock, rxIdle, rxOverflow, phyReady, reserved7, ?_, reserved11, causeField, ?_, reserved22⟩
  · rw [ready, statusReady, beq_iff_eq]
  · rw [error, statusError, beq_iff_eq]
  · rw [aligned, statusAligned, Bool.or_eq_true, beq_iff_eq, beq_iff_eq]
  · rw [state]
    cases s.line.linkState <;> rfl
  · rw [offset, BitVec.toNat_ofNat]
    exact Nat.mod_eq_of_lt (by omega)

/-! ### The alphabet of a single `Encode` (40_linecodec.md R117, R118) -/

theorem Symbol.ofPair?_self (sym : Symbol) : Symbol.ofPair? sym.k sym.v = some sym := by
  cases sym <;> rfl

theorem Symbol.ofPair?_eq_none_iff {k : Bool} {v : Byte} :
    Symbol.ofPair? k v = none ↔ k = true ∧ v ≠ 0xBC#8 ∧ v ≠ 0xFB#8 := by
  cases k with
  | false => simp [Symbol.ofPair?]
  | true =>
    by_cases comma : v = 0xBC#8
    · simp [Symbol.ofPair?, comma]
    · by_cases sof : v = 0xFB#8 <;> simp [Symbol.ofPair?, comma, sof]

theorem encodeStep_symbol (sym : Symbol) (s : State) :
    encodeStep sym.k sym.v s = .next ((s.putLine { s.line with encRd := (encodeSymbol sym s.line.encRd).2 }).putPorts
      { s.ports with encGroup := (encodeSymbol sym s.line.encRd).1 }) := by
  rw [encodeStep, encodeGroup, Symbol.ofPair?_self]
  rfl

theorem encodeStep_outside {k : Bool} {v : Byte} (outside : Symbol.ofPair? k v = none) (s : State) :
    encodeStep k v s = .fault (.encodeOutsideAlphabet k v) := by
  rw [encodeStep, encodeGroup, outside]
  rfl

theorem ofPair?_of_encodeStep_fault {k : Bool} {v : Byte} {s : State} {f : Fault} (h : encodeStep k v s = .fault f) :
    Symbol.ofPair? k v = none := by
  cases member : Symbol.ofPair? k v with
  | none => rfl
  | some sym =>
    rw [encodeStep, encodeGroup, member] at h
    cases h

/-! ### Where a Fault arises (60_exceptions.md R301, R316) -/

theorem takeStep_of_reserved {s : State} (a : Action) (reserved : 8 ≤ s.regs.cause.toNat) :
    takeStep a s = .fault (.reservedCause s.regs.cause) := if_pos reserved

theorem step_of_reserved {s : State} (legal : s.cfg.legal = true) (reserved : 8 ≤ s.regs.cause.toNat) :
    step s = .fault (.reservedCause s.regs.cause) := by
  rw [step, if_pos legal]
  split
  · exact takeStep_of_reserved _ reserved
  · exact takeStep_of_reserved (s := s.putAgenda _) _ reserved

/-- Settles O49: a reserved code stops the step before its action is looked at, and one `Encode` is `encodeStep`. -/
theorem whereFaultsArise : Obligations.WhereFaultsArise := by
  unfold Obligations.WhereFaultsArise
  refine ⟨fun s reserved => ⟨exec_csrrStatus_reserved reserved, fun legal => step_of_reserved legal reserved⟩, ?_⟩
  intro s k v rest legal cause scheduled
  have encodes : step s = encodeStep k v (s.putAgenda rest) := step_eq legal cause scheduled
  refine ⟨?member, fun control notComma notSof => ?outside⟩
  case member =>
    rintro sym rfl rfl
    exact encodes.trans (encodeStep_symbol sym _)
  case outside =>
    exact encodes.trans (encodeStep_outside (Symbol.ofPair?_eq_none_iff.mpr ⟨control, notComma, notSof⟩) _)

/-- With no reserved cause code the one action that is a Fault is an `Encode` outside the alphabet. -/
theorem perform_fault {a : Action} {s : State} {f : Fault} (cause : s.regs.cause.toNat < 8)
    (h : perform a s = .fault f) : ∃ k v, a = .encode k v ∧ Symbol.ofPair? k v = none := by
  rw [perform_eq] at h
  cases a with
  | hostRead off =>
    obtain ⟨-, -, reserved⟩ | ⟨v, reads⟩ := exec_decodeRead off s
    · exact absurd cause (Nat.not_lt.mpr reserved)
    · cases reads.symm.trans h
  | hostWrite off val =>
    obtain ⟨regs, writes, -⟩ := exec_decodeWrite off val s
    cases writes.symm.trans h
  | encode k v =>
    exact ⟨k, v, rfl, ofPair?_of_encodeStep_fault h⟩
  | _ => cases h

/-- The eager schedule asks for no single `Encode` (46_endpoint.md R271; log entry 8). -/
theorem nextAction_ne_encode (s : State) (k : Bool) (v : Byte) : nextAction s ≠ .encode k v := by
  unfold nextAction enabledBusStep
  repeat' split
  all_goals nofun

/-- Settles O48: the bounds leave an `Encode` outside the alphabet as the only Fault, which the eager schedule does not
ask for and the premise excludes from the schedule's head. -/
theorem noFaultWithinBounds : Obligations.NoFaultWithinBounds := by
  unfold Obligations.NoFaultWithinBounds neverFaults
  intro s bounds inAlphabet f faults
  cases legal : s.cfg.legal with
  | false => cases (step_of_illegal legal).symm.trans faults
  | true =>
    cases scheduled : s.agenda with
    | nil =>
      rw [step_eager legal bounds.cause scheduled] at faults
      obtain ⟨k, v, isEncode, -⟩ := perform_fault bounds.cause faults
      exact nextAction_ne_encode s k v isEncode
    | cons a rest =>
      rw [step_eq legal bounds.cause scheduled] at faults
      obtain ⟨k, v, rfl, outside⟩ := perform_fault (s := s.putAgenda rest) bounds.cause faults
      obtain ⟨control, notComma, notSof⟩ := Symbol.ofPair?_eq_none_iff.mp outside
      obtain data | comma | sof := inAlphabet k v rest scheduled
      · cases data.symm.trans control
      · exact notComma comma
      · exact notSof sof

end Sys2Proof.Machine
end

section
/-! ERROR and the resets (70_reset_and_hazards.md R330, R332, R348): ERROR is left on a requested link reset or the
power-up reset alone, and what the power-up reset and the state right after it hold. -/

namespace Sys2Proof.Machine

set_option Elab.async false

/-! ### ERROR (R348) -/

theorem perform_error {a : Action} {s t : State} (here : s.line.linkState = .error)
    (calm : s.regs.linkResetReq = false) (notRst : a ≠ .rst) (hp : perform a s = .next t) :
    t.line.linkState = .error := by
  by_contra left
  obtain rst | ⟨raw, phy, idle, rfl⟩ := perform_moves_linkState hp (fun same => left (same.trans here))
  · exact notRst rst
  · refine left ?_
    have sampled : (sampleInputs raw phy idle s).line.linkState = .error := here
    rw [perform_next hp, receiveWord, if_neg (by rw [sampled]; decide), receiveIn_error sampled calm]
    exact here

/-- Settles O50: whatever the action, `perform_error`. -/
theorem errorIsSticky : Obligations.ErrorIsSticky := by
  unfold Obligations.ErrorIsSticky
  intro s t here calm notRst hs
  obtain ⟨-, -, ⟨-, eager⟩ | ⟨a, rest, scheduled, named⟩⟩ := step_cases hs
  · exact perform_error here calm (nextAction_ne_rst s) eager
  · have other : a ≠ .rst := by simpa [scheduled] using notRst
    exact perform_error (s := s.putAgenda rest) here calm other named

/-! ### Right after reset (R330, R332) -/

theorem bounds_resetOf {cfg : Params} (legal : cfg.legal = true) : Bounds (State.resetOf cfg) where
  line := lineBounds_of_reset legal (.inl rfl) .neg 0
  buffers := bufferBounds_of_reset rfl rfl (Nat.zero_le _)
  cause := Nat.zero_lt_succ 7
  memory := Memory.wf_reset cfg

theorem coherent_resetOf (cfg : Params) : Coherent (State.resetOf cfg) := by
  unfold Coherent
  split
  · exact requesterCoherent_idle _ rfl rfl rfl rfl rfl
  · exact completerCoherent_no_frame rfl nofun rfl ⟨rfl, rfl, rfl⟩

/-- Settles O45: the reset state of every legal build, and the default build is one. -/
theorem invariantsAtReset : Obligations.InvariantsAtReset := by
  unfold Obligations.InvariantsAtReset
  have legal : (Params.default .master).legal = true := by decide
  exact ⟨fun cfg legal => ⟨bounds_resetOf legal, coherent_resetOf cfg⟩, bounds_resetOf legal, coherent_resetOf _⟩

theorem step_rst {s : State} {rest : List Action} (legal : s.cfg.legal = true) (cause : s.regs.cause.toNat < 8)
    (scheduled : s.agenda = .rst :: rest) : step s = .next (powerUpReset (s.putAgenda rest)) :=
  step_eq legal cause scheduled

/-- STATUS reads 0 after the power-up reset, whatever the build, which it does not read. -/
theorem statusValue_powerUpReset (s : State) : statusValue (powerUpReset s) = 0 := by
  have same : statusValue (powerUpReset s) = statusValue State.reset := rfl
  rw [same]
  decide

/-- Settles O52: the step is `powerUpReset`, whose parts are the reset values of R332. (The name `powerUpReset`
is the model's function.) -/
theorem powerUpReset_holds : Obligations.PowerUpReset := by
  unfold Obligations.PowerUpReset
  intro s rest legal cause scheduled
  refine ⟨_, step_rst legal cause scheduled, rfl, rfl, rfl, rfl, rfl, rfl, rfl, ?_⟩
  have noCause : (powerUpReset (s.putAgenda rest)).regs.cause.toNat < 8 := Nat.zero_lt_succ 7
  rw [exec_csrrStatus noCause, statusValue_powerUpReset]
  rfl

end Sys2Proof.Machine
end
